-- ==== Sys2Proof/Word.lean ====
section
/-! DEFINITION. The word types of the GC4: what the manual reads and writes as bits
(00 conventions: 32-bit words, little-endian; 64-bit fields as two words). -/

namespace Sys2Proof

/-- A word of survey memory or of a register (00 conventions). -/
abbrev Word := BitVec 32

/-- A byte of a record or of a link frame. -/
abbrev Byte := BitVec 8

/-- A 64-bit field: an elapsed or survey time, an order argument. -/
abbrev Dword := BitVec 64

/-- Heads, links and occupation records, numbered 0 to 3 (00 "Heads, lanes and loops"). -/
abbrev Head := Fin 4

/-- Loops, numbered 0 to 3. -/
abbrev LoopId := Fin 4

/-- Lanes, numbered 0 to 4; lane 4 is the control lane. -/
abbrev Lane := Fin 5

/-- Calibration sets, numbered 0 to 7. -/
abbrev SetId := Fin 8

end Sys2Proof
end

