-- ==== Sys2Proof/Syntax.lean ====
section
/-! DEFINITION. The commands of the GC4: one constructor for each row of spec/opcode_table.json, with the
operands that the event carries from outside the part. Everything else an event needs (a message that was
presented, the order in progress, the sample under evaluation) stands in the state. -/

namespace Sys2Proof

/-- The ten events of the latch (11 "events"; bit numbers in 12 "registers"). -/
inductive Event where
  | sheet | order | loop | settle | link | overflow | pool | tide | memfault | engine
  deriving DecidableEq, Repr

/-- The six requesters of the Memory Port, in the order of their numbers (10 "requesters and accesses"). -/
inductive Requester where
  | sheetWalker | orderExecutor | tideUnit | occupationController | driftUnit | controlPort
  deriving DecidableEq, Repr

/-- The answer of survey memory to the grant in flight (R179). OKAY carries the words read; for a write
the list is not looked at. -/
inductive BusAnswer where
  | okay (data : List Word)
  | retry
  | error
  deriving DecidableEq, Repr

/-- The registers that REGISTER_WRITE covers: every one that has no row of its own (R184). -/
inductive OtherRegister where
  | ident | state | eventEnable
  deriving DecidableEq, Repr

/-- One interval between two boundary transitions, as the tracker sees it in SEARCH (R118): the places on the line
of the two transitions and of those between them, in ns (log 10). -/
structure Interval where
  start : Nat
  finish : Nat
  inner : List Nat
  deriving DecidableEq, Repr

/-- One cell as the line carries it in TRACK (R116, R119): the places of the transition at its boundary and of the
transition inside it, in ns; `none` where the line has no such transition. -/
structure TrackCell where
  boundary : Option Nat
  mid : Option Nat
  deriving DecidableEq, Repr

/-- The commands: each is one event taken at the part. -/
inductive Instr where
  /-- Power-up (R189). -/
  | powerOnReset
  /-- A write to CONTROL with RUN alone among the commands; `w` is the word written (R185, R186). -/
  | run (w : Word)
  /-- A write to CONTROL with STOP alone. -/
  | stop (w : Word)
  /-- A write to CONTROL with RESET set (R189). -/
  | reset (w : Word)
  /-- A write to CONTROL that takes no command: RUN and STOP both clear, or both set (R185). -/
  | attentionConfiguration (w : Word)
  /-- A write to ROOT (R184). -/
  | rootWrite (w : Word)
  /-- A write to NOTICE (R141). -/
  | notice (w : Word)
  /-- A write to EVENTS (R191). -/
  | eventsClear (w : Word)
  /-- A write to IDENT, STATE or EVENT_ENABLE (R184). -/
  | registerWrite (r : OtherRegister) (w : Word)
  /-- An event raised by its owner arrives at the Control Port (R191). -/
  | eventArrival (e : Event)
  /-- A requester presents its next access (R174). -/
  | accessPresent (r : Requester)
  /-- The arbiter chooses a requester and forms a grant (R176 to R178). -/
  | grant
  /-- Survey memory answers the grant in flight (R179). -/
  | busAnswer (a : BusAnswer)
  /-- Expiry of the status timer (R193). -/
  | statusTimerExpiry
  /-- Cells delivered in HUNT, the last of which completes the start mark (R121). -/
  | startMark (h : Head) (cells : List TrackCell)
  /-- Cells delivered in HEADER, the last of which completes the fifth byte (R122). -/
  | headerComplete (h : Head) (cells : List TrackCell)
  /-- Cells delivered in PAYLOAD, the last of which completes the second CRC byte (R123). -/
  | frameEnd (h : Head) (cells : List TrackCell)
  /-- The second consecutive missed cell (R120). -/
  | timingLoss (h : Head) (cell : TrackCell)
  /-- Expiry of the silence timer (R130). -/
  | silenceExpiry (h : Head)
  /-- The Link Receiver's part of the head reset under way (R134). -/
  | headResetLinkPart
  /-- The arbiter over the evaluator takes a frame (R55 to R57). -/
  | frameChoice
  /-- The judging event of the next sample (R58 to R64). -/
  | judgingEvent
  /-- The delivery of the judged sample is formed (R65, R66, R72). -/
  | deliveryForming
  /-- The Tide Unit takes the evaluator's request (R103). -/
  | tideLookup
  /-- The Correction Unit's part of the head reset under way (R69). -/
  | headResetJudgePart
  /-- A link transition to DOWN is taken at the Correction Unit (R68). -/
  | linkDownAtCorrection (h : Head)
  /-- An identity report is taken at record h (R6, R7). -/
  | identityReport (h : Head)
  /-- A judge transition to SETTLED is taken at record h (R8). -/
  | judgeTransitionSettled (h : Head)
  /-- A judge transition to UNSETTLED is taken at record h (R9). -/
  | interruption (h : Head)
  /-- The record takes the disposition that waits at the evaluator (R11, R13). -/
  | disposition
  /-- The record takes the credit that waits at the evaluator (R12, R13). -/
  | credit
  /-- Expiry of record h's settle timer (R14). -/
  | settleExpiry (h : Head)
  /-- Expiry of record h's acquire timer (R15). -/
  | acquireExpiry (h : Head)
  /-- Expiry of record h's grace timer (R17). -/
  | graceExpiry (h : Head)
  /-- A link transition is taken at record h (R17). -/
  | linkTransitionAtRecord (h : Head)
  /-- The record's part of the head reset under way (R20). -/
  | headResetRecordPart
  /-- The Drift Unit takes the join of record h (R36 to R43). -/
  | join (h : Head)
  /-- The Drift Unit takes the landing report of head h (R38). -/
  | landingReport (h : Head)
  /-- The Drift Unit takes the failure report of head h (R38). -/
  | failureReport (h : Head)
  /-- Expiry of loop l's span timer (R50). -/
  | spanExpiry (l : LoopId)
  /-- The Drift Unit begins the next entry of the oldest batch (R48). -/
  | finalizationEntry
  /-- Expiry of the poll timer (R141). -/
  | pollExpiry
  /-- The walker begins a look (R142, R143). -/
  | lookBegin
  /-- The calibration check of the sheet in validation (R90). -/
  | calibrationCheck
  /-- The take of the station sheet whose TAKEN write has landed (R150). -/
  | take
  /-- The take of the order sheet whose TAKEN write has landed (R152). -/
  | orderTake
  /-- SET_CLOCK at its owners (R165). -/
  | setClock
  /-- SET_HEAD at its owners (R166). -/
  | setHead
  /-- LOAD_CAL at the Calibration Store (R92). -/
  | loadCal
  /-- CLEAR_CAL at the Calibration Store (R96). -/
  | clearCal
  /-- SWAP_TIDE at the Tide Unit (R108, R109). -/
  | swapTide
  /-- CANCEL at the Occupation Controller (R19). -/
  | cancel
  /-- CANCEL at the Drift Unit (R52). -/
  | cancelWithdrawal
  /-- ABORT_LOOP at the Drift Unit (R51). -/
  | abortLoop
  /-- HEAD_RESET is presented to its three owners (R172). -/
  | headReset
  /-- Intervals seen in SEARCH, the last of which may be the sixteenth well-formed one (R118). -/
  | trackerLock (h : Head) (intervals : List Interval)
  /-- Cells delivered in TRACK and then a lone missed cell (R119). -/
  | missedCell (h : Head) (cells : List TrackCell) (cell : TrackCell)
  deriving DecidableEq, Repr

end Sys2Proof
end

