-- ==== Sys2Proof/Config.lean ====
section
/-! DEFINITION. What is fixed for the part: codes, sizes and limits that the manual states. The manual calls
no result undefined and leaves no value to an implementation, so there is no free value here. -/

namespace Sys2Proof.Config

/-- IDENT: vendor code 3D71h, part code 04h, revision 01h (12 "registers"). -/
def identWord : Word := 0x01043D71

/-- The directory's signature word (R187). -/
def signature : Word := 0x8E3D5A17

/-- The pending pool has 64 entries (02 "the pending pool"). -/
def poolSize : Nat := 64

/-- A frame queue holds up to 8 frames (R132). -/
def frameQueueSize : Nat := 8

/-- The occupation write queue holds up to 16 trail records (R22). -/
def trailQueueSize : Nat := 16

/-- The segment cache holds up to four segments (R102). -/
def cacheSize : Nat := 4

/-- A look moves the anchor past at most 64 sheets (R142). -/
def lookLimit : Nat := 64

/-- A run of 16 well-formed cells locks the tracker (R118). -/
def lockCells : Nat := 16

/-- The fixed part of a station sheet and of an order sheet, in bytes (12 "sheets"). -/
def stationSheetBytes : Nat := 0x200
def orderSheetBytes : Nat := 0x38

/-- A trail record is 32 bytes (R23). -/
def trailRecordBytes : Nat := 32

/-- A tide segment is 48 bytes (06 "segments and tables"). -/
def segmentBytes : Nat := 48

/-- The status block is 1C0h bytes (12 "status block"). -/
def statusBlockBytes : Nat := 0x1C0

/-- The directory is 18 words (12 "directory"). -/
def directoryWords : Nat := 18

/-- The retry limit and the grant size before a directory is loaded (R175). -/
def startRetryLimit : Nat := 3
def startGrantSize : Nat := 4

/-- The start mark B4h, 2Dh in line order, each byte least significant bit first (07 "the frame assembler"). -/
def startMark : List Bool :=
  [false, false, true, false, true, true, false, true,
   true, false, true, true, false, true, false, false]

/-- The polynomial and initial value of the frame CRC (R123). -/
def crcPolynomial : BitVec 16 := 0x1021
def crcInitial : BitVec 16 := 0xFFFF

end Sys2Proof.Config
end

