-- ==== Sys2Proof/Machine/State.lean ====
section
/-! DEFINITION. The state of the GC4, block by block (00 "block overview"), as plain data, and its value right
after power-on reset. Every register holds a value at reset; a value the manual does not give is named in
notes/assumptions/21.md. -/

namespace Sys2Proof.Machine

/-! ## The outcomes of a step -/

/-- Nothing stops the GC4: a memory fault and a failed start-up are states of it (R180, R187). So no fault
exists (notes/assumptions/1.md, 5.md). -/
inductive Fault where
  deriving DecidableEq, Repr

/-- Why a command has no meaning. -/
inductive Refusal where
  /-- Raised by an arm of exec for a row that is not modelled. Safe: nothing can be proved of that row.
  No arm raises it. -/
  | notModelled (mnemonic : String)
  deriving DecidableEq, Repr

/-- A timer: disarmed, or armed with its expiry in elapsed ms (01 "the occupation record"). -/
abbrev Timer := Option Nat

/-! ## Sensor links (07) -/

/-- The four bit rates (R117). -/
inductive Rate where
  | r19200 | r57600 | r115200 | r460800
  deriving DecidableEq, Repr

inductive Tracker where
  | search | track
  deriving DecidableEq, Repr

inductive Assembler where
  | hunt | header | payload
  deriving DecidableEq, Repr

inductive LinkJudge where
  | down | up
  deriving DecidableEq, Repr

inductive FrameKind where
  | sample | ident
  deriving DecidableEq, Repr

/-- A good frame with its two arrival stamps (R125). Its payload length is the length of the payload. -/
structure Frame where
  kind : FrameKind
  sequence : Byte
  payload : List Byte
  elapsedStamp : Dword
  surveyStamp : Dword
  deriving DecidableEq, Repr

/-- The twelve receive counters (R133). -/
structure Counters where
  good : BitVec 32 := 0
  headerErr : BitVec 32 := 0
  kindErr : BitVec 32 := 0
  channelErr : BitVec 32 := 0
  lengthErr : BitVec 32 := 0
  crcErr : BitVec 32 := 0
  aborted : BitVec 32 := 0
  gaps : BitVec 32 := 0
  overflows : BitVec 32 := 0
  unqueued : BitVec 32 := 0
  timingLosses : BitVec 32 := 0
  missedCells : BitVec 32 := 0
  deriving DecidableEq, Repr

/-- One Link Receiver, at the values of the first reset column (07 "link receiver state"). -/
structure LinkReceiver where
  rate : Rate := .r115200
  linkIn : Nat := 3
  linkOut : Nat := 3
  silence : Nat := 2000
  tracker : Tracker := .search
  lockRun : Nat := 0
  missRun : Nat := 0
  /-- the cell timing of TRACK (R118, R119): the place at which the next cell boundary is predicted, in parts of which
  a cell has 10^9; 0 in SEARCH, which holds no timing (log 10) -/
  timing : Nat := 0
  /-- bits the tracker has delivered and the assembler has not yet taken (log 12) -/
  incoming : List Bool := []
  assembler : Assembler := .hunt
  /-- the last bits delivered in HUNT, oldest first, at most 16 (R121, log 11) -/
  hunt : List Bool := []
  /-- the five header bytes once they have passed their checks; empty before -/
  header : List Byte := []
  /-- bits of the frame in assembly collected in the present assembler state, oldest first -/
  bits : List Bool := []
  judge : LinkJudge := .down
  goodRun : Nat := 0
  badRun : Nat := 0
  silenceTimer : Timer := none
  expected : Option Byte := none
  queue : List Frame := []
  counters : Counters := {}
  deriving DecidableEq, Repr

/-! ## Calibration Store (05) -/

inductive SetState where
  | empty | loading | valid
  deriving DecidableEq, Repr

/-- The contents of a calibration set (05 "the sets and their states"); points are (T, C). -/
structure CalContents where
  serial : Word := 0
  scale : Int := 0
  tiltK : Nat := 0
  latency : Nat := 0
  cntMin : Int := 0
  cntMax : Int := 0
  tiltMax : Nat := 0
  tMin : Int := 0
  tMax : Int := 0
  points : List (Int × Int) := []
  deriving DecidableEq, Repr

structure CalSet where
  state : SetState := .empty
  use : Nat := 0
  contents : CalContents := {}
  deriving DecidableEq, Repr

/-- A load in progress (R93): the words of the fixed part once they have been read, for the check of the whole record
(R94). -/
structure CalLoad where
  set : SetId
  address : Nat
  fixed : List Word
  deriving DecidableEq, Repr

structure CalibrationStore where
  sets : Vector CalSet 8 := Vector.replicate 8 {}
  load : Option CalLoad := none
  deriving DecidableEq, Repr

/-! ## Station sheets and occupations (01) -/

inductive Role where
  | station | baseOpen | baseClose | baseTurn
  deriving DecidableEq, Repr

structure Options where
  tide : Bool := false
  temp : Bool := false
  tilt : Bool := false
  /-- policy RESTART; KEEP when clear -/
  restart : Bool := false
  baseRefPresent : Bool := false
  deriving DecidableEq, Repr

/-- What the walker reads from the request part of a station sheet (12 "station sheet"), at the widths of
the layout; `role`, `loop` and `set` are the bytes as read. -/
structure StationRequest where
  head : Byte
  role : Byte
  loop : Byte
  set : Byte
  options : Options
  maxIntr : Nat
  linkGrace : Nat
  target : Nat
  minGood : Nat
  settleLimit : Nat
  acquireLimit : Nat
  trailCap : Nat
  label : Dword
  baseRef : Int
  deriving DecidableEq, Repr

inductive OccState where
  | idle | identifying | settling | acquiring | writing
  deriving DecidableEq, Repr

/-- The nine outcomes of an occupation (01 "entry into WRITING"). -/
inductive OccOutcome where
  | complete | timed | sparse | unsettled | interrupted | linkLost | cancelled | headReset | headMismatch
  deriving DecidableEq, Repr

inductive OccStep where
  | result | join | drift | state
  deriving DecidableEq, Repr

inductive DriftStatus where
  | none | pending | applied | base | zeroSpan | expired | aborted | noLoop | staleLoop | poolFull
  | notUsable | withdrawn
  deriving DecidableEq, Repr

/-- The drift fields of a sheet (12, A4h to C3h, and final valid). -/
structure DriftFields where
  status : DriftStatus := .none
  amount : Int := 0
  finalValue : Int := 0
  valid : Bool := false
  closeTime : Nat := 0
  generation : BitVec 32 := 0
  deriving DecidableEq, Repr

/-- The Drift Unit's answer to a join (R27): the state word to write, and the drift fields. -/
structure DriftAnswer where
  provisional : Bool := false
  fields : DriftFields := {}
  deriving DecidableEq, Repr

/-- What a RESTART interruption clears (R10). The sums are exact (R83); the times are survey ms. -/
structure Accumulation where
  sum : Int := 0
  accepted : Nat := 0
  min : Int := 0
  max : Int := 0
  firstTime : Nat := 0
  lastTime : Nat := 0
  tiltSum : Int := 0
  tempSum : Int := 0
  tideSum : Int := 0
  extrap : BitVec 32 := 0
  deriving DecidableEq, Repr

/-- One occupation record (01 "the occupation record"). At reset all fields are 0 (R2); 0 is the code of no role and of
neither answer, so role and answer are STATION and FINAL there (log 21). -/
structure OccRecord where
  state : OccState := .idle
  takeNo : BitVec 32 := 0
  sheet : Word := 0
  role : Role := .station
  loopId : Option LoopId := some 0
  loopGen : BitVec 32 := 0
  calSet : SetId := 0
  options : Options := {}
  /-- base_ref of the sheet, for the join (R27, log 22) -/
  baseRef : Int := 0
  target : Nat := 0
  minGood : Nat := 0
  settleLimit : Nat := 0
  acquireLimit : Nat := 0
  linkGrace : Nat := 0
  maxIntr : Nat := 0
  trailCap : Nat := 0
  trailBase : Nat := 0
  trailNext : Nat := 0
  trailCount : Nat := 0
  trailOverflow : Bool := false
  trailFault : Bool := false
  acc : Accumulation := {}
  rejHead : BitVec 32 := 0
  rejGate : BitVec 32 := 0
  rejTilt : BitVec 32 := 0
  rejTide : BitVec 32 := 0
  settling : BitVec 32 := 0
  intr : Nat := 0
  settleTimer : Timer := none
  acquireTimer : Timer := none
  graceTimer : Timer := none
  acqSeen : Bool := false
  outcome : Option OccOutcome := none
  step : Option OccStep := none
  /-- the join is presented marked failed (R26) -/
  joinFailed : Bool := false
  answer : DriftAnswer := {}
  deriving DecidableEq, Repr

inductive SettleJudge where
  | unsettled | settled
  deriving DecidableEq, Repr

/-- An identity report (R57): the serial, and whether it is an identity change. -/
structure IdentityMsg where
  serial : Word
  change : Bool
  deriving DecidableEq, Repr

/-- What has been presented to an occupation record and not yet been taken there, oldest first (log 6). -/
structure RecordInbox where
  judgeMsgs : List SettleJudge := []
  identityMsgs : List IdentityMsg := []
  linkMsgs : List LinkJudge := []
  deriving DecidableEq, Repr

/-- The dispositions of a sample (12 "trail record"). -/
inductive Disposition where
  | waitId | settling | accepted | rejHead | rejGate | rejTilt | rejTide
  deriving DecidableEq, Repr

/-- One sample record of a SAMPLE payload (R126). -/
structure Sample where
  counts : Int
  tiltX : Int
  tiltY : Int
  temperature : Int
  flags : Byte
  offset : Nat
  deriving DecidableEq, Repr

/-- A trail record (R23, 12 "trail record"). -/
structure TrailRecord where
  time : Nat
  sample : Sample
  disposition : Disposition
  corrected : Int
  deriving DecidableEq, Repr

/-- An entry of the occupation write queue (R22): a trail record placed under a take, or a sheet step. -/
inductive QueueEntry where
  | trail (h : Head) (takeNo : BitVec 32) (address : Nat) (record : TrailRecord)
  | result (h : Head)
  | drift (h : Head)
  | stateWord (h : Head)
  deriving DecidableEq, Repr

/-- The entry whose access is presented and not yet answered; a result write is two accesses (R196). -/
inductive Issued where
  | trail (h : Head) (takeNo : BitVec 32)
  | resultAnswer (h : Head)
  | resultBody (h : Head)
  | drift (h : Head)
  | stateWord (h : Head)
  deriving DecidableEq, Repr

structure OccupationController where
  records : Vector OccRecord 4 := Vector.replicate 4 {}
  inbox : Vector RecordInbox 4 := Vector.replicate 4 {}
  queue : List QueueEntry := []
  issued : Option Issued := none
  deriving DecidableEq, Repr

/-! ## Survey loops and drift (02) -/

inductive LoopState where
  | free | opening | opened | closing
  deriving DecidableEq, Repr

inductive EntryPhase where
  | reserved | held | writing
  deriving DecidableEq, Repr

/-- What a landing report adds to an entry (R38). -/
structure Landing where
  sheet : Word
  trailOverflow : Bool
  trailFault : Bool
  deriving DecidableEq, Repr

/-- A pool entry in use (R35); its owner is the pending list or the batch that holds it (log 27). -/
structure PoolEntry where
  phase : EntryPhase
  head : Head
  landing : Option Landing
  midTime : Nat
  mean : Int
  loopGen : BitVec 32
  deriving DecidableEq, Repr

/-- One entry of the loop table (02 "the loop table"). -/
structure Loop where
  state : LoopState := .free
  generation : BitVec 32 := 0
  openValue : Int := 0
  openTime : Nat := 0
  baseRef : Int := 0
  openElapsed : Nat := 0
  spanTimer : Timer := none
  pending : List PoolEntry := []
  deriving DecidableEq, Repr

/-- The kind of a batch with the values it carries (R45). -/
inductive BatchKind where
  | closed (d t : Int) (openValue : Int) (openTime : Nat) (baseRef : Int) (closeTime : Nat)
      (generation : BitVec 32)
  | expired (openValue baseRef : Int)
  | aborted (openValue baseRef : Int)
  | noLoop
  | withdrawn
  deriving DecidableEq, Repr

structure Batch where
  kind : BatchKind
  entries : List PoolEntry
  deriving DecidableEq, Repr

/-- The report on a station answered PROVISIONAL (R38). -/
inductive Report where
  | landing (l : Landing)
  | failure
  deriving DecidableEq, Repr

/-- The write of the finalization in progress (R48). -/
inductive FinalWrite where
  | drift | stateWord
  deriving DecidableEq, Repr

structure DriftUnit where
  loops : Vector Loop 4 := Vector.replicate 4 {}
  batches : List Batch := []
  finalizing : Option FinalWrite := none
  /-- the report presented for each head and not yet taken -/
  reports : Vector (Option Report) 4 := Vector.replicate 4 none
  /-- the directory's loop span limit, minutes -/
  spanLimit : Nat := 0
  deriving DecidableEq, Repr

/-! ## Sample intake and correction (03, 04) -/

/-- The per-head state of the Correction Unit (03 "per-head state"). -/
structure HeadState where
  judge : SettleJudge := .unsettled
  inRun : Nat := 0
  outRun : Nat := 0
  prevTemp : Option Int := none
  phase : Nat := 0
  known : Bool := false
  serial : Word := 0
  kind : Byte := 0
  rate : Byte := 0
  tolIn : Nat := 20
  tolOut : Nat := 40
  tempStep : Nat := 0
  runIn : Nat := 30
  runOut : Nat := 5
  on : Nat := 0
  off : Nat := 0
  levelX : Int := 0
  levelY : Int := 0
  deriving DecidableEq, Repr

/-- The occupation context of a frame (R56). -/
structure Context where
  takeNo : BitVec 32
  calSet : SetId
  options : Options
  cal : CalContents
  deriving DecidableEq, Repr

/-- How the judging event left a sample that goes on to delivery (R60, R62, R63). -/
inductive SampleClass where
  | flagged
  | gateFailed
  | judged (level : Bool)
  deriving DecidableEq, Repr

/-- The candidate evaluation (R72). The tide term and the corrected value are 0 until DONE. -/
structure Candidate where
  reading : Int
  tiltTerm : Int
  tempTerm : Int
  extrap : Bool
  tideTerm : Int
  corrected : Int
  deriving DecidableEq, Repr

/-- Where the evaluation of a sample stands (R58). -/
inductive EvalPhase where
  /-- between two samples -/
  | between
  /-- judged; `caused` says that the sample caused a judge transition -/
  | judged (sample : Sample) (time : Nat) (cls : SampleClass) (caused : Bool)
  /-- AWAITING_TIDE (R72) -/
  | awaitingTide (sample : Sample) (time : Nat) (c : Candidate)
  /-- the delivery waits to be taken: a disposition -/
  | delivering (sample : Sample) (time : Nat) (d : Disposition)
  /-- the delivery waits to be taken: a credit (DONE, R81) -/
  | crediting (sample : Sample) (time : Nat) (c : Candidate)
  deriving DecidableEq, Repr

/-- The frame in processing (R55 to R58). -/
structure Evaluator where
  head : Head
  frame : Frame
  context : Option Context
  remaining : List Sample
  phase : EvalPhase
  deriving DecidableEq, Repr

structure CorrectionUnit where
  pointer : Head := 0
  heads : Vector HeadState 4 := Vector.replicate 4 {}
  /-- link transitions to DOWN presented and not yet taken, for each head (R68) -/
  downMsgs : Vector Nat 4 := Vector.replicate 4 0
  evaluator : Option Evaluator := none
  deriving DecidableEq, Repr

/-! ## Tide Unit (06) -/

structure Segment where
  start : Nat
  span : Nat
  c0 : Int
  c1 : Int
  c2 : Int
  c3 : Int
  deriving DecidableEq, Repr

structure TideTable where
  address : Nat
  count : Nat
  firstStart : Nat
  endTime : Nat
  deriving DecidableEq, Repr

/-- The table under a validation scan (R109, R110). -/
structure PendingTable where
  address : Nat
  count : Nat
  nextIndex : Nat
  expectedStart : Nat
  firstStart : Nat
  deriving DecidableEq, Repr

inductive ScanOwner where
  | order | starting
  deriving DecidableEq, Repr

structure CacheEntry where
  index : Nat
  segment : Segment
  deriving DecidableEq, Repr

inductive LookupPhase where
  | probing | reading
  deriving DecidableEq, Repr

/-- A lookup in flight, with the table it began on (R103, R104). `lo` and `hi` may meet in READING. -/
structure Lookup where
  time : Nat
  table : TideTable
  tableNo : BitVec 32
  lo : Nat
  hi : Nat
  phase : LookupPhase
  deriving DecidableEq, Repr

inductive TideUse where
  | lookup | scan
  deriving DecidableEq, Repr

structure TideUnit where
  current : Option TideTable := none
  tableNo : BitVec 32 := 0
  pendingTable : Option PendingTable := none
  scanOwner : Option ScanOwner := none
  /-- the filled entries, least recently used first -/
  cache : List CacheEntry := []
  lookup : Option Lookup := none
  /-- what the access presented and not yet answered is for (R107) -/
  slot : Option TideUse := none
  deriving DecidableEq, Repr

/-! ## Sheets and lanes (08) and orders (09) -/

/-- The reasons of a refusal (12 "code values"). -/
inductive Reason where
  | none | window | kind | head | role | loopId | loopState | calEmpty | headMismatch | clockUnset
  | limits | memory | unknownOrder | range | clockInUse | headBusy | setBusy | calCheck | calOrder
  | tableOrder | tableSpan | alreadyEnded | notFound
  deriving DecidableEq, Repr

inductive LaneState where
  | unrooted | waiting | busy | held
  deriving DecidableEq, Repr

structure LaneRecord where
  state : LaneState := .unrooted
  anchor : Option Word := none
  flag : Bool := false
  deriving DecidableEq, Repr

/-- Where a look stands: the access it needs or waits for, or the event that follows. -/
inductive LookStage where
  | rootRead
  | nextRead
  /-- a candidate address that is not a multiple of 8, to be presented as a refused access (R178) -/
  | misaligned (address : Word)
  | headerRead
  | requestRead
  /-- check 9 is next (R149) -/
  | calCheck
  | takenWrite
  /-- TAKEN has landed on a station sheet (R150) -/
  | take
  /-- TAKEN has landed on an order sheet (R152) -/
  | orderTake
  | answerWrite (reason : Reason)
  | refusedWrite
  deriving DecidableEq, Repr

/-- A look in progress (R142 to R154). -/
structure Look where
  lane : Lane
  /-- the lane's state when the look began (R154) -/
  before : LaneState
  /-- voided and refused sheets passed so far (R142) -/
  moved : Nat
  candidate : Word
  /-- the next-pointer read in the candidate's header -/
  next : Word
  stage : LookStage
  /-- a write to the present candidate has been presented (R154) -/
  placed : Bool
  /-- a STOP was taken while the look was under way (R154) -/
  stopped : Bool
  /-- the set claimed at check 9 and its serial (R149) -/
  claim : Option SetId
  claimSerial : Word
  request : Option StationRequest
  deriving DecidableEq, Repr

structure SheetWalker where
  lanes : Vector LaneRecord 5 := Vector.replicate 5 {}
  pollTimer : Timer := none
  pollInterval : Nat := 0
  /-- the directory whose lane roots are read (R140) -/
  directory : Word := 0
  lastServed : Lane := 4
  look : Option Look := none
  deriving DecidableEq, Repr

inductive OrderStatus where
  | done | refused
  deriving DecidableEq, Repr

/-- What an order in ACTING waits for. -/
inductive Acting where
  /-- presented to its owner -/
  | presented
  /-- a CANCEL that the Occupation Controller has passed on (R19) -/
  | withdrawal
  /-- a LOAD_CAL whose record is being read (R168) -/
  | loading
  /-- a SWAP_TIDE whose scan runs (R169) -/
  | scanning
  /-- a HEAD_RESET: which of the three parts have been taken (R172) -/
  | resetting (link judge record : Bool)
  deriving DecidableEq, Repr

inductive OrderStage where
  | none
  | reading
  | acting (a : Acting)
  | answerWord
  | answerState
  deriving DecidableEq, Repr

/-- The order in progress (09). -/
structure OrderExecutor where
  sheet : Option Word := none
  code : Word := 0
  arg0 : Dword := 0
  arg1 : Dword := 0
  arg2 : Dword := 0
  arg3 : Dword := 0
  stage : OrderStage := .none
  status : Option OrderStatus := none
  reason : Reason := .none
  deriving DecidableEq, Repr

/-! ## Memory Port (10) -/

inductive Direction where
  | read | write
  deriving DecidableEq, Repr

inductive WindowClass where
  | sheet | table | none
  deriving DecidableEq, Repr

/-- Base inclusive, limit exclusive (00 notation). -/
structure Window where
  base : Nat
  limit : Nat
  deriving DecidableEq, Repr

/-- An access as a requester hands it to the port (R174). Addresses do not wrap (log 20). -/
structure Access where
  direction : Direction
  window : WindowClass
  address : Nat
  count : Nat
  /-- the words to be written; empty for a read -/
  words : List Word
  deriving DecidableEq, Repr

/-- An access presented and not yet answered, with the words done so far and those read (R177). -/
structure Transfer where
  access : Access
  done : Nat
  data : List Word
  deriving DecidableEq, Repr

/-- The grant in flight (R176, R179). -/
structure Grant where
  requester : Requester
  direction : Direction
  address : Nat
  count : Nat
  words : List Word
  retryCount : Nat
  /-- its answer is discarded (R182, R187) -/
  discard : Bool
  deriving DecidableEq, Repr

inductive FaultKind where
  | window | retryExhausted | busError
  deriving DecidableEq, Repr

structure FaultRecord where
  requester : Requester
  direction : Direction
  address : Nat
  kind : FaultKind
  deriving DecidableEq, Repr

structure MemoryPort where
  /-- the requester granted last -/
  pointer : Fin 6 := 5
  slots : Vector (Option Transfer) 6 := Vector.replicate 6 none
  grant : Option Grant := none
  sheetWindow : Option Window := none
  tableWindow : Option Window := none
  retryLimit : Nat := Config.startRetryLimit
  grantSize : Nat := Config.startGrantSize
  lastFault : Option FaultRecord := none
  deriving DecidableEq, Repr

/-! ## Control Port (11) -/

/-- The configuration fields of CONTROL (R185). -/
structure AttentionConfig where
  live : Bool := false
  activeLow : Bool := false
  source : BitVec 4 := 0
  deriving DecidableEq, Repr

inductive EngineState where
  | halted | starting | running | stopping | stopped | faulted
  deriving DecidableEq, Repr

inductive FaultReason where
  | none | signature | check | windows | roots | range | tideTable | readFault
  deriving DecidableEq, Repr

inductive StartPhase where
  | directory | scan
  deriving DecidableEq, Repr

/-- The access of a refresh that is next or in flight (R194). -/
inductive Refresh where
  | odd
  | body (snapshot : List Word)
  | even
  deriving DecidableEq, Repr

structure ControlPort where
  attention : AttentionConfig := {}
  engine : EngineState := .halted
  faultReason : FaultReason := .none
  root : Word := 0
  events : BitVec 10 := 0
  eventEnable : BitVec 10 := 0
  elapsed : Dword := 0
  offset : Dword := 0
  clockSet : Bool := false
  /-- the directory address captured at entry into STARTING (R187) -/
  directory : Word := 0
  starting : Option StartPhase := none
  statusAddress : Option Word := none
  statusInterval : Nat := 0
  statusTimer : Timer := none
  generation : BitVec 32 := 0
  refreshPending : Bool := false
  refresh : Option Refresh := none
  /-- events raised that have not yet arrived (R191, log 7) -/
  raised : List Event := []
  deriving DecidableEq, Repr

/-! ## The machine -/

/-- The GC4: its ten blocks, and the commands that wait, first in first out. -/
structure State where
  pending : List Instr
  links : Vector LinkReceiver 4
  corr : CorrectionUnit
  tide : TideUnit
  cal : CalibrationStore
  occ : OccupationController
  drift : DriftUnit
  walker : SheetWalker
  order : OrderExecutor
  port : MemoryPort
  ctrl : ControlPort
  deriving DecidableEq, Repr

/-- The GC4 right after power-on reset (R2, R30, R54, R87, R100, R136, R140, R159, R175, R189). -/
def State.reset : State where
  pending := []
  links := Vector.replicate 4 {}
  corr := {}
  tide := {}
  cal := {}
  occ := {}
  drift := {}
  walker := {}
  order := {}
  port := {}
  ctrl := {}

end Sys2Proof.Machine
end

