-- ==== Sys2Proof/Machine/Operands.lean ====
section
/-! DEFINITION. The record formats of chapter 12: how the GC4 reads the fields of the records and frames it is
handed, how it lays out the words it writes, and the code values; and the cells of a sensor line (R116). -/

namespace Sys2Proof

/-- The requesters' numbers (10 "requesters and accesses"). -/
def Requester.number : Requester → Fin 6
  | .sheetWalker => 0 | .orderExecutor => 1 | .tideUnit => 2 | .occupationController => 3
  | .driftUnit => 4 | .controlPort => 5

end Sys2Proof

namespace Sys2Proof.Machine

/-! ## Words, bytes and fields (12, 00 conventions) -/

/-- Word `i` of a record that was read, in address order. -/
def wordAt (ws : List Word) (i : Nat) : Word := ws.getD i 0

/-- Byte `k` of a word, the least significant byte at the lowest address. -/
def byteOf (w : Word) (k : Nat) : Byte := w.extractLsb' (8 * k) 8

/-- Half-word `k` of a word. -/
def halfOf (w : Word) (k : Nat) : BitVec 16 := w.extractLsb' (16 * k) 16

/-- A 64-bit field whose low word is word `i` (00 conventions). -/
def dwordAt (ws : List Word) (i : Nat) : Dword := wordAt ws (i + 1) ++ wordAt ws i

/-- A signed field of a record: its value. -/
def i32At (ws : List Word) (i : Nat) : Int := (wordAt ws i).toInt
def i64At (ws : List Word) (i : Nat) : Int := (dwordAt ws i).toInt

/-- A word made of four bytes, the first at the lowest address. -/
def packBytes (b0 b1 b2 b3 : Byte) : Word := b3 ++ b2 ++ b1 ++ b0

/-- A word made of two half-words, the first at the lower address. -/
def packHalves (lo hi : BitVec 16) : Word := hi ++ lo

/-- A 64-bit field as it is written: low word, high word (R177). -/
def dwordWords (x : Dword) : List Word := [x.extractLsb' 0 32, x.extractLsb' 32 32]

/-- The bounds of a signed 64-bit value. -/
def i64Min : Int := -(2 ^ 63)
def i64Max : Int := 2 ^ 63 - 1

/-- A result outside the signed 64-bit range is stored as the nearer bound (R47, R74). -/
def clamp64 (x : Int) : Int := if x < i64Min then i64Min else if i64Max < x then i64Max else x

/-- A gravity quantity as it is written (R47, R74). -/
def i64Words (x : Int) : List Word := dwordWords (BitVec.ofInt 64 (clamp64 x))

/-- A time as it is written. -/
def u64Words (t : Nat) : List Word := dwordWords (BitVec.ofNat 64 t)

/-- The zero-sum check: the 32-bit sum of all words (R197). -/
def wordSum (ws : List Word) : Word := ws.foldl (· + ·) 0

/-- Eight bits of a line, least significant first, as one byte (R116). -/
def byteOfBits (b0 b1 b2 b3 b4 b5 b6 b7 : Bool) : Byte :=
  BitVec.ofNat 8 (b0.toNat + 2 * b1.toNat + 4 * b2.toNat + 8 * b3.toNat + 16 * b4.toNat
    + 32 * b5.toNat + 64 * b6.toNat + 128 * b7.toNat)

/-- The bytes of a run of line bits; bits that fill no byte are left out. -/
def bytesOfBits : List Bool → List Byte
  | b0 :: b1 :: b2 :: b3 :: b4 :: b5 :: b6 :: b7 :: rest =>
      byteOfBits b0 b1 b2 b3 b4 b5 b6 b7 :: bytesOfBits rest
  | _ => []

/-- Byte `i` of a payload. -/
def payloadByte (p : List Byte) (i : Nat) : Byte := p.getD i 0

/-- 16-bit and 32-bit fields of a payload, low byte first (R116). -/
def payloadHalf (p : List Byte) (i : Nat) : BitVec 16 := payloadByte p (i + 1) ++ payloadByte p i
def payloadWord (p : List Byte) (i : Nat) : Word :=
  packBytes (payloadByte p i) (payloadByte p (i + 1)) (payloadByte p (i + 2)) (payloadByte p (i + 3))

/-! ## The line (R116 to R119) -/

/-- Cells per second. -/
def Rate.bps : Rate → Nat
  | .r19200 => 19200
  | .r57600 => 57600
  | .r115200 => 115200
  | .r460800 => 460800

/-- Line places are compared in parts of a cell: 1 ns at `bps` cells in a second is `bps` parts of a cell's 10^9. -/
def wholeCell : Nat := 1000000000
def halfCell : Nat := 500000000

/-- The place of a transition, in parts of a cell. -/
def Rate.place (r : Rate) (ns : Nat) : Nat := ns * r.bps

/-- Two places lie within one quarter of a cell of each other (R116). -/
def withinQuarter (x y : Nat) : Bool := decide (4 * ((x : Int) - y).natAbs ≤ wholeCell)

/-- A well-formed cell of SEARCH: one cell long within the tolerance, with no transition inside it or one
near mid-cell (R118). -/
def intervalWellFormed (r : Rate) (v : Interval) : Bool :=
  withinQuarter (r.place v.finish) (r.place v.start + wholeCell) &&
    match v.inner with
    | [] => true
    | [m] => withinQuarter (r.place m) (r.place v.start + halfCell)
    | _ :: _ :: _ => false

/-- The boundary transition of a cell is present near the predicted place `p` (R119). -/
def cellPresent (r : Rate) (p : Nat) (c : TrackCell) : Bool :=
  match c.boundary with
  | none => false
  | some b => withinQuarter (r.place b) p

/-- Where a cell begins: at the boundary the tracker saw, on which it realigns, or at the predicted place of a boundary
that is absent (R119). -/
def cellStart (r : Rate) (p : Nat) (c : TrackCell) : Nat :=
  match c.boundary with
  | none => p
  | some b => if withinQuarter (r.place b) p then r.place b else p

/-- The bit of a cell: 1 if a transition falls near mid-cell (R119). -/
def cellBit (r : Rate) (p : Nat) (c : TrackCell) : Bool :=
  match c.mid with
  | none => false
  | some m => withinQuarter (r.place m) (cellStart r p c + halfCell)

/-- Where the boundary after a cell is predicted (R119). -/
def nextPlace (r : Rate) (p : Nat) (c : TrackCell) : Nat := cellStart r p c + wholeCell

/-- Where the boundary after a run of cells is predicted. -/
def placeAfter (r : Rate) (p : Nat) (cells : List TrackCell) : Nat := cells.foldl (nextPlace r) p

/-- Every cell of a run has its boundary transition (R119). -/
def cellsPresent (r : Rate) (p : Nat) : List TrackCell → Bool
  | [] => true
  | c :: rest => cellPresent r p c && cellsPresent r (nextPlace r p c) rest

/-- The bits of a run of cells, each cell read on the timing the one before it left (R119). -/
def cellBits (r : Rate) (p : Nat) : List TrackCell → List Bool
  | [] => []
  | c :: rest => cellBit r p c :: cellBits r (nextPlace r p c) rest

/-! ## Frames (R122, R123, R126, R127, R197) -/

/-- One bit enters the CRC register (R197). -/
def crcBit (r : BitVec 16) (b : Bool) : BitVec 16 :=
  if xor r.msb b then (r <<< 1) ^^^ Config.crcPolynomial else r <<< 1

/-- One byte enters the CRC register, most significant bit first (R123). -/
def crcByte (r : BitVec 16) (b : Byte) : BitVec 16 :=
  [7, 6, 5, 4, 3, 2, 1, 0].foldl (fun acc k => crcBit acc (b.getLsbD k)) r

/-- The CRC of a run of bytes (R123, R197). -/
def crc16 (bytes : List Byte) : BitVec 16 := bytes.foldl crcByte Config.crcInitial

/-- The 8-bit sum of header bytes (R122). -/
def headerSum (bytes : List Byte) : Byte := bytes.foldl (· + ·) 0

/-- The kind that a header byte names (07 header table). -/
def frameKind (b : Byte) : Option FrameKind :=
  if b = 0x53 then some .sample else if b = 0x49 then some .ident else none

/-- The payload lengths allowed for a kind (07 header table). -/
def lengthAllowed (k : FrameKind) (n : Nat) : Bool :=
  match k with
  | .sample => decide (16 ≤ n ∧ n ≤ 128 ∧ n % 16 = 0)
  | .ident => decide (n = 8)

/-- Sample record `i` of a SAMPLE payload (12 "SAMPLE record"). -/
def sampleAt (p : List Byte) (i : Nat) : Sample where
  counts := (payloadWord p (16 * i)).toInt
  tiltX := (payloadHalf p (16 * i + 4)).toInt
  tiltY := (payloadHalf p (16 * i + 6)).toInt
  temperature := (payloadWord p (16 * i + 8)).toInt
  flags := payloadByte p (16 * i + 12)
  offset := (payloadHalf p (16 * i + 14)).toNat

/-- The samples of a SAMPLE payload in payload order (R126). -/
def samplesOf (p : List Byte) : List Sample := (List.range (p.length / 16)).map (sampleAt p)

/-- Clamp engaged is bit 0 of the head flags, heater fault bit 1 (12); either rejects the sample (R60). -/
def Sample.flagged (x : Sample) : Bool := x.flags.getLsbD 0 || x.flags.getLsbD 1

/-! ## Code values (12) -/

def OccState.code : OccState → Byte
  | .idle => 0 | .identifying => 1 | .settling => 2 | .acquiring => 3 | .writing => 4

def OccOutcome.code : OccOutcome → Word
  | .complete => 1 | .timed => 2 | .sparse => 3 | .unsettled => 4 | .interrupted => 5
  | .linkLost => 6 | .cancelled => 7 | .headReset => 8 | .headMismatch => 9

/-- COMPLETE and TIMED are the usable outcomes (01 "entry into WRITING"). -/
def OccOutcome.usable : OccOutcome → Bool
  | .complete => true | .timed => true
  | .sparse | .unsettled | .interrupted | .linkLost | .cancelled | .headReset | .headMismatch => false

def DriftStatus.code : DriftStatus → Byte
  | .none => 0 | .pending => 1 | .applied => 2 | .base => 3 | .zeroSpan => 4 | .expired => 5
  | .aborted => 6 | .noLoop => 7 | .staleLoop => 8 | .poolFull => 9 | .notUsable => 10 | .withdrawn => 11

def Reason.code : Reason → Word
  | .none => 0 | .window => 1 | .kind => 2 | .head => 3 | .role => 4 | .loopId => 5 | .loopState => 6
  | .calEmpty => 7 | .headMismatch => 8 | .clockUnset => 9 | .limits => 10 | .memory => 11
  | .unknownOrder => 12 | .range => 13 | .clockInUse => 14 | .headBusy => 15 | .setBusy => 16
  | .calCheck => 17 | .calOrder => 18 | .tableOrder => 19 | .tableSpan => 20 | .alreadyEnded => 21
  | .notFound => 22

def Disposition.code : Disposition → Byte
  | .waitId => 1 | .settling => 2 | .accepted => 3 | .rejHead => 4 | .rejGate => 5 | .rejTilt => 6
  | .rejTide => 7

def LaneState.code : LaneState → Byte
  | .unrooted => 0 | .waiting => 1 | .busy => 2 | .held => 3

def LoopState.code : LoopState → Byte
  | .free => 0 | .opening => 1 | .opened => 2 | .closing => 3

def SetState.code : SetState → Byte
  | .empty => 0 | .loading => 1 | .valid => 2

def Tracker.code : Tracker → Byte
  | .search => 0 | .track => 1

def Assembler.code : Assembler → Byte
  | .hunt => 0 | .header => 1 | .payload => 2

def LinkJudge.code : LinkJudge → Byte
  | .down => 0 | .up => 1

def SettleJudge.code : SettleJudge → Byte
  | .unsettled => 0 | .settled => 1

def EngineState.code : EngineState → Byte
  | .halted => 0 | .starting => 1 | .running => 2 | .stopping => 3 | .stopped => 4 | .faulted => 5

def FaultReason.code : FaultReason → Byte
  | .none => 0 | .signature => 1 | .check => 2 | .windows => 3 | .roots => 4 | .range => 5
  | .tideTable => 6 | .readFault => 7

def FaultKind.code : FaultKind → Byte
  | .window => 1 | .retryExhausted => 2 | .busError => 3

def Direction.code : Direction → Byte
  | .read => 0 | .write => 1

/-- Sheet state words that the GC4 reads or writes (12 "sheets"). -/
def stateFiled : Word := 1
def stateVoid : Word := 2
def stateTaken : Word := 3
def stateProvisional : Word := 4
def stateFinal : Word := 5
def stateRefused : Word := 6
def stateDone : Word := 7

/-- The role that a byte of the request part names (12 "station sheet"). -/
def roleOf (b : Byte) : Option Role :=
  if b = 1 then some .station else if b = 2 then some .baseOpen
  else if b = 3 then some .baseClose else if b = 4 then some .baseTurn else none

/-- The bit rate that a rate code names (R161). -/
def rateOf (code : Nat) : Rate :=
  match code with
  | 0 => .r19200
  | 1 => .r57600
  | 2 => .r115200
  | _ => .r460800

/-! ## Records that are read (12) -/

/-- The request part of a station sheet, words 14h to 37h. -/
def parseRequest (ws : List Word) : StationRequest where
  head := byteOf (wordAt ws 0) 0
  role := byteOf (wordAt ws 0) 1
  loop := byteOf (wordAt ws 0) 2
  set := byteOf (wordAt ws 0) 3
  options :=
    { tide := (wordAt ws 1).getLsbD 0, temp := (wordAt ws 1).getLsbD 1, tilt := (wordAt ws 1).getLsbD 2
      restart := (wordAt ws 1).getLsbD 3, baseRefPresent := (wordAt ws 1).getLsbD 4 }
  maxIntr := (byteOf (wordAt ws 1) 1).toNat
  linkGrace := (halfOf (wordAt ws 1) 1).toNat
  target := (halfOf (wordAt ws 2) 0).toNat
  minGood := (halfOf (wordAt ws 2) 1).toNat
  settleLimit := (halfOf (wordAt ws 3) 0).toNat
  acquireLimit := (halfOf (wordAt ws 3) 1).toNat
  trailCap := (halfOf (wordAt ws 4) 0).toNat
  label := dwordAt ws 5
  baseRef := i64At ws 7

/-- The words of the fixed part of a calibration record. -/
def calFixedWords : Nat := 12

/-- The point count, in the fixed part. -/
def calPointCount (fixed : List Word) : Nat := (wordAt fixed 1).toNat

/-- The points of a calibration record, from the words of its second part. -/
def calPoints (rest : List Word) (n : Nat) : List (Int × Int) :=
  (List.range n).map fun i => (i32At rest (4 * i), i64At rest (4 * i + 2))

/-- The contents of a calibration record. -/
def parseCal (fixed rest : List Word) : CalContents where
  serial := wordAt fixed 0
  scale := i64At fixed 2
  tiltK := (wordAt fixed 4).toNat
  latency := (wordAt fixed 5).toNat
  cntMin := i32At fixed 6
  cntMax := i32At fixed 7
  tMin := i32At fixed 8
  tMax := i32At fixed 9
  tiltMax := (wordAt fixed 10).toNat
  points := calPoints rest (calPointCount fixed)

/-- A tide segment; a probe has read its first three words only. -/
def parseSegment (ws : List Word) : Segment where
  start := (dwordAt ws 0).toNat
  span := (wordAt ws 2).toNat
  c0 := i64At ws 4
  c1 := i64At ws 6
  c2 := i64At ws 8
  c3 := i64At ws 10

/-- The directory (12 "directory"). -/
structure Directory where
  signature : Word
  sheetWindow : Window
  tableWindow : Window
  roots : List Nat
  statusAddress : Word
  tideAddress : Nat
  tideCount : Nat
  pollInterval : Nat
  statusInterval : Nat
  spanLimit : Nat
  retryCode : Nat
  grantSize : Nat
  deriving DecidableEq, Repr

def parseDirectory (ws : List Word) : Directory where
  signature := wordAt ws 0
  sheetWindow := ⟨(wordAt ws 1).toNat, (wordAt ws 2).toNat⟩
  tableWindow := ⟨(wordAt ws 3).toNat, (wordAt ws 4).toNat⟩
  roots := [5, 6, 7, 8, 9].map fun i => (wordAt ws i).toNat
  statusAddress := wordAt ws 10
  tideAddress := (wordAt ws 11).toNat
  tideCount := (wordAt ws 12).toNat
  pollInterval := (wordAt ws 13).toNat
  statusInterval := (wordAt ws 14).toNat
  spanLimit := (halfOf (wordAt ws 15) 0).toNat
  retryCode := (byteOf (wordAt ws 15) 2).toNat
  grantSize := (byteOf (wordAt ws 15) 3).toNat

/-- The retry limit that a code names (12 "directory"). -/
def retryLimitOf (code : Nat) : Nat :=
  match code with
  | 0 => 3
  | 1 => 7
  | 2 => 15
  | _ => 31

/-! ## Records that are written (12, R195) -/

/-- The flags word of a station sheet. -/
def flagsWord (overflow fault valid : Bool) : Word :=
  BitVec.ofNat 32 (overflow.toNat + 2 * fault.toNat + 4 * valid.toNat)

/-- The drift write: words A0h to C3h (R196). -/
def driftWords (overflow fault : Bool) (d : DriftFields) : List Word :=
  [flagsWord overflow fault d.valid, packBytes d.status.code 0 0 0]
    ++ i64Words d.amount ++ i64Words d.finalValue ++ u64Words d.closeTime ++ [d.generation]

/-- A trail record: eight words (12 "trail record"). -/
def trailWords (t : TrailRecord) : List Word :=
  u64Words t.time
    ++ [BitVec.ofInt 32 t.sample.counts,
        packHalves (BitVec.ofInt 16 t.sample.tiltX) (BitVec.ofInt 16 t.sample.tiltY),
        BitVec.ofInt 32 t.sample.temperature, packBytes t.disposition.code 0 0 0]
    ++ i64Words t.corrected

end Sys2Proof.Machine
end

