-- ==== Sys2Proof/Machine/Arithmetic.lean ====
section
/-! DEFINITION. The correction arithmetic of chapter 04, exact in the integers and narrowed once at the end, and
the settle judge's tests on one sample (03). -/

namespace Sys2Proof.Machine

/-- Division rounded to the nearest integer, ties away from zero (R73). -/
def roundDiv (n : Int) (q : Nat) : Int :=
  if n < 0 then -(((2 * n.natAbs + q) / (2 * q) : Nat) : Int) else ((2 * n.natAbs + q) / (2 * q) : Nat)

/-- The reading (R75). -/
def readingOf (counts scale : Int) : Int := clamp64 (roundDiv (counts * scale) 65536)

/-- The tilt term (R76). -/
def tiltTermOf (tiltK : Nat) (dx dy : Int) : Int := roundDiv (tiltK * (dx ^ 2 + dy ^ 2)) 1000

/-- The temperature term above a point `p` that T has reached, with the points that follow (R77, R78). -/
def tempAbove (t : Int) (p : Int × Int) : List (Int × Int) → Int × Bool
  | [] => (p.2, decide (p.1 < t))
  | q :: rest =>
      if t < q.1 then (p.2 + roundDiv ((q.2 - p.2) * (t - p.1)) (q.1 - p.1).toNat, false)
      else tempAbove t q rest

/-- The temperature term and the extrapolation flag (R77, R78). -/
def tempTermOf (points : List (Int × Int)) (t : Int) : Int × Bool :=
  match points with
  | [] => (0, false)
  | p :: rest => if t < p.1 then (p.2, true) else tempAbove t p rest

/-- A segment holds a time (R103, R105). -/
def Segment.holds (g : Segment) (t : Nat) : Bool := decide (g.start ≤ t ∧ t < g.start + g.span)

/-- The numerator of the tide term (R79). -/
def tideNumerator (g : Segment) (u : Nat) : Int :=
  g.c0 * g.span ^ 3 + g.c1 * u * g.span ^ 2 + g.c2 * u ^ 2 * g.span + g.c3 * u ^ 3

/-- The tide term at time `t` in a segment (R79). -/
def tideTermOf (g : Segment) (t : Nat) : Int :=
  clamp64 (roundDiv (tideNumerator g (t - g.start)) (g.span ^ 3))

/-- The corrected value (R81). -/
def correctedOf (reading tilt temp tide : Int) : Int := clamp64 (reading + tilt + temp + tide)

/-- A mean of a sum over the accepted samples; 0 with none (R84, R85). -/
def meanOf (sum : Int) (accepted : Nat) : Int := if accepted = 0 then 0 else roundDiv sum accepted

/-- The mid time, rounded down; 0 with no accepted sample (R86). -/
def midTimeOf (a : Accumulation) : Nat := if a.accepted = 0 then 0 else (a.firstTime + a.lastTime) / 2

/-- The candidate evaluation in FORMING (R72, R80). -/
def formCandidate (ctx : Context) (x : HeadState) (smp : Sample) : Candidate where
  reading := readingOf smp.counts ctx.cal.scale
  tiltTerm :=
    if ctx.options.tilt then tiltTermOf ctx.cal.tiltK (smp.tiltX - x.levelX) (smp.tiltY - x.levelY) else 0
  tempTerm := if ctx.options.temp then (tempTermOf ctx.cal.points smp.temperature).1 else 0
  extrap := ctx.options.temp && (tempTermOf ctx.cal.points smp.temperature).2
  tideTerm := 0
  corrected := 0

/-- The candidate evaluation at DONE, with its tide term (R81). -/
def Candidate.finish (c : Candidate) (tide : Int) : Candidate :=
  { c with tideTerm := tide, corrected := correctedOf c.reading c.tiltTerm c.tempTerm tide }

/-! ## The tests on one sample (03) -/

/-- A sample's time: the stamp less latency and offset, not below 0 (R59). -/
def sampleTime (stamp : Dword) (latency offset : Nat) : Nat := stamp.toNat - latency - offset

/-- Cadence passes the sample (R61). -/
def cadencePasses (x : HeadState) : Bool := decide (x.off = 0 ∨ x.phase < x.on)

/-- The cadence phase after a sample (R61). -/
def cadencePhase (x : HeadState) : Nat := if x.off = 0 then x.phase else (x.phase + 1) % (x.on + x.off)

/-- Both tilt offsets lie within a tolerance (R63). -/
def tiltWithin (x : HeadState) (smp : Sample) (tol : Nat) : Bool :=
  decide ((smp.tiltX - x.levelX).natAbs ≤ tol ∧ (smp.tiltY - x.levelY).natAbs ≤ tol)

/-- The sample passes the temperature part of both tests (R63). -/
def stepWithin (x : HeadState) (smp : Sample) : Bool :=
  match x.prevTemp with
  | none => true
  | some p => decide (x.tempStep = 0 ∨ (smp.temperature - p).natAbs ≤ x.tempStep)

/-- The sample is steady (R63). -/
def isSteady (x : HeadState) (smp : Sample) : Bool := tiltWithin x smp x.tolIn && stepWithin x smp

/-- The sample is level (R63). -/
def isLevel (x : HeadState) (smp : Sample) : Bool := tiltWithin x smp x.tolOut && stepWithin x smp

/-- The sample passes the plausibility gates of a set (R62). -/
def gatesPass (k : CalContents) (x : HeadState) (smp : Sample) : Bool :=
  decide (k.cntMin ≤ smp.counts ∧ smp.counts ≤ k.cntMax) && tiltWithin x smp k.tiltMax &&
    decide (k.tMin ≤ smp.temperature ∧ smp.temperature ≤ k.tMax)

/-- The settle judge after a judged sample (R63, R64). -/
def judgeSample (x : HeadState) (smp : Sample) : HeadState :=
  let y := { x with prevTemp := some smp.temperature }
  match x.judge with
  | .unsettled =>
      if isSteady x smp then
        if x.inRun + 1 = x.runIn then { y with judge := .settled, inRun := 0, outRun := 0 }
        else { y with inRun := x.inRun + 1 }
      else { y with inRun := 0 }
  | .settled =>
      if isLevel x smp then { y with outRun := 0 }
      else if x.outRun + 1 = x.runOut then { y with judge := .unsettled, inRun := 0, outRun := 0 }
      else { y with outRun := x.outRun + 1 }

end Sys2Proof.Machine
end

