-- ==== Sys2Proof/Machine/Flags.lean ====
section
/-! DEFINITION. The registers' bits, the event latch and the attention line (11, 12 "registers"). -/

namespace Sys2Proof.Machine

/-- The bit of an event in EVENTS and EVENT_ENABLE (12 "registers"). -/
def eventBit : Event → Nat
  | .sheet => 0 | .order => 1 | .loop => 2 | .settle => 3 | .link => 4 | .overflow => 5 | .pool => 6
  | .tide => 7 | .memfault => 8 | .engine => 9

def eventMask (e : Event) : BitVec 10 := BitVec.twoPow 10 (eventBit e)

/-- An event raised by its owner is on its way to the Control Port (R191). -/
def State.raise (e : Event) (s : State) : State :=
  { s with ctrl := { s.ctrl with raised := s.ctrl.raised ++ [e] } }

/-- An event that arrives latches its bit if its enable is set (R191). -/
def latchEvent (e : Event) (c : ControlPort) : ControlPort :=
  if c.eventEnable.getLsbD (eventBit e) then { c with events := c.events ||| eventMask e } else c

/-- The configuration fields of a word written to CONTROL (R185, 12). -/
def configOf (w : Word) : AttentionConfig where
  live := w.getLsbD 4
  activeLow := w.getLsbD 5
  source := w.extractLsb' 8 4

/-- The configuration is loaded at the write (R185). -/
def State.loadConfig (w : Word) (s : State) : State :=
  { s with ctrl := { s.ctrl with attention := configOf w } }

/-- A word written to ROOT, its three lowest bits cleared (R184). -/
def rootOf (w : Word) : Word := w &&& 0xFFFFFFF8

/-- The ten event bits of a written word; other bits are ignored (R195). -/
def eventBitsOf (w : Word) : BitVec 10 := w.setWidth 10

/-! ## Register reads (R184, R185, R191, R195). A read changes nothing. -/

def State.readIdent (_s : State) : Word := Config.identWord

def State.readControl (s : State) : Word :=
  BitVec.ofNat 32 (16 * s.ctrl.attention.live.toNat + 32 * s.ctrl.attention.activeLow.toNat
    + 256 * s.ctrl.attention.source.toNat)

def State.readState (s : State) : Word := packBytes s.ctrl.engine.code s.ctrl.faultReason.code 0 0

def State.readRoot (s : State) : Word := s.ctrl.root

def State.readNotice (_s : State) : Word := 0

def State.readEvents (s : State) : Word := s.ctrl.events.setWidth 32

def State.readEventEnable (s : State) : Word := s.ctrl.eventEnable.setWidth 32

/-! ## The attention line (R192) -/

/-- Some occupation record is ACQUIRING. -/
def State.anyAcquiring (s : State) : Bool :=
  ([0, 1, 2, 3] : List Head).any fun h => s.occ.records[h].state = .acquiring

/-- The live condition that a source names; a source that names none is never true (R185). -/
def State.liveCondition (s : State) (source : BitVec 4) : Bool :=
  match source.toNat with
  | 0 => s.corr.heads[0].judge = .settled
  | 1 => s.corr.heads[1].judge = .settled
  | 2 => s.corr.heads[2].judge = .settled
  | 3 => s.corr.heads[3].judge = .settled
  | 4 => s.links[0].judge = .up
  | 5 => s.links[1].judge = .up
  | 6 => s.links[2].judge = .up
  | 7 => s.links[3].judge = .up
  | 8 => s.anyAcquiring
  | _ => false

/-- The attention line is asserted. -/
def State.attentionAsserted (s : State) : Bool :=
  if s.ctrl.attention.live then s.liveCondition s.ctrl.attention.source else s.ctrl.events != 0

/-- The level of the attention line, `true` for high. -/
def State.attentionLevel (s : State) : Bool := xor s.attentionAsserted s.ctrl.attention.activeLow

end Sys2Proof.Machine
end

