-- ==== Sys2Proof/Machine/Ops.lean ====
section
/-! DEFINITION. The shared operations: access to the parts of the state, time, the engine state machine, the
status writer's requests, and what several events do in the same way (the end of an occupation, a judge clear,
a link transition, the end of a look, the answer of an order). -/

namespace Sys2Proof.Machine

/-! ## Access to the parts -/

def State.link (s : State) (h : Head) : LinkReceiver := s.links[h]
def State.record (s : State) (h : Head) : OccRecord := s.occ.records[h]
def State.inbox (s : State) (h : Head) : RecordInbox := s.occ.inbox[h]
def State.headState (s : State) (h : Head) : HeadState := s.corr.heads[h]
def State.loopAt (s : State) (l : LoopId) : Loop := s.drift.loops[l]
def State.reportAt (s : State) (h : Head) : Option Report := s.drift.reports[h]
def State.calSet (s : State) (c : SetId) : CalSet := s.cal.sets[c]
def State.lane (s : State) (n : Lane) : LaneRecord := s.walker.lanes[n]
def State.slot (s : State) (r : Requester) : Option Transfer := s.port.slots[r.number]

def State.updLink (h : Head) (f : LinkReceiver → LinkReceiver) (s : State) : State :=
  { s with links := s.links.set h (f (s.link h)) }

def State.updRecord (h : Head) (f : OccRecord → OccRecord) (s : State) : State :=
  { s with occ := { s.occ with records := s.occ.records.set h (f (s.record h)) } }

def State.updInbox (h : Head) (f : RecordInbox → RecordInbox) (s : State) : State :=
  { s with occ := { s.occ with inbox := s.occ.inbox.set h (f (s.inbox h)) } }

def State.updHead (h : Head) (f : HeadState → HeadState) (s : State) : State :=
  { s with corr := { s.corr with heads := s.corr.heads.set h (f (s.headState h)) } }

def State.updDownMsgs (h : Head) (f : Nat → Nat) (s : State) : State :=
  { s with corr := { s.corr with downMsgs := s.corr.downMsgs.set h (f s.corr.downMsgs[h]) } }

def State.updLoop (l : LoopId) (f : Loop → Loop) (s : State) : State :=
  { s with drift := { s.drift with loops := s.drift.loops.set l (f (s.loopAt l)) } }

def State.setReport (h : Head) (r : Option Report) (s : State) : State :=
  { s with drift := { s.drift with reports := s.drift.reports.set h r } }

def State.updCalSet (c : SetId) (f : CalSet → CalSet) (s : State) : State :=
  { s with cal := { s.cal with sets := s.cal.sets.set c (f (s.calSet c)) } }

def State.updLane (n : Lane) (f : LaneRecord → LaneRecord) (s : State) : State :=
  { s with walker := { s.walker with lanes := s.walker.lanes.set n (f (s.lane n)) } }

def State.setSlot (r : Requester) (t : Option Transfer) (s : State) : State :=
  { s with port := { s.port with slots := s.port.slots.set r.number t } }

def State.setEvaluator (e : Option Evaluator) (s : State) : State :=
  { s with corr := { s.corr with evaluator := e } }

def State.setLook (l : Option Look) (s : State) : State :=
  { s with walker := { s.walker with look := l } }

def State.setCache (c : List CacheEntry) (s : State) : State := { s with tide := { s.tide with cache := c } }

def State.setLookup (l : Option Lookup) (s : State) : State := { s with tide := { s.tide with lookup := l } }

/-- A step joins the occupation write queue (R22). -/
def State.enqueue (e : QueueEntry) (s : State) : State :=
  { s with occ := { s.occ with queue := s.occ.queue ++ [e] } }

/-! ## Time (R190) -/

/-- Elapsed milliseconds since the last reset. -/
def State.now (s : State) : Nat := s.ctrl.elapsed.toNat

/-- The survey clock: elapsed time plus the offset, modulo 2^64. -/
def State.survey (s : State) : Dword := s.ctrl.elapsed + s.ctrl.offset

/-- An armed timer's expiry can be taken (log 4). -/
def State.due (t : Timer) (s : State) : Bool :=
  match t with
  | none => false
  | some x => decide (x ≤ s.now)

/-- The elapsed counter advances by 1 ms (R190); no command does this (log 3). -/
def State.tick (s : State) : State := { s with ctrl := { s.ctrl with elapsed := s.ctrl.elapsed + 1 } }

/-! ## Engine state and status requests (R186, R188, R193) -/

/-- A refresh is requested (R193). -/
def State.requestRefresh (s : State) : State :=
  match s.ctrl.statusAddress with
  | none => s
  | some _ =>
      match s.ctrl.refresh with
      | none => { s with ctrl := { s.ctrl with refresh := some .odd } }
      | some _ => { s with ctrl := { s.ctrl with refreshPending := true } }

/-- A change of engine state raises ENGINE and requests a refresh (R186, R193). -/
def State.setEngine (e : EngineState) (s : State) : State :=
  ({ s with ctrl := { s.ctrl with engine := e } }.raise .engine).requestRefresh

def State.allRecordsIdle (s : State) : Bool :=
  ([0, 1, 2, 3] : List Head).all fun h => (s.record h).state = .idle

def State.allLoopsFree (s : State) : Bool :=
  ([0, 1, 2, 3] : List LoopId).all fun l => (s.loopAt l).state = .free

/-- An order is in progress (R159). -/
def State.orderInProgress (s : State) : Bool := s.order.stage != .none

/-- The walker carries a look through after STOP (R154). -/
def State.carrying (s : State) : Bool :=
  match s.walker.look with
  | none => false
  | some k => k.stopped && k.placed

/-- The stop condition (R188). -/
def State.stopCondition (s : State) : Bool := s.allRecordsIdle && !s.orderInProgress && !s.carrying

/-- The test of the stop condition in STOPPING (R188). -/
def State.testStop (s : State) : State :=
  if s.ctrl.engine = .stopping ∧ s.stopCondition then s.setEngine .stopped else s

/-- The look flags of all five lanes are set (R141). -/
def State.setAllFlags (s : State) : State :=
  { s with walker := { s.walker with lanes := s.walker.lanes.map fun n => { n with flag := true } } }

/-- The look flags are cleared (R154). -/
def State.clearAllFlags (s : State) : State :=
  { s with walker := { s.walker with lanes := s.walker.lanes.map fun n => { n with flag := false } } }

/-- The poll timer for one interval from now; with interval 0 it is never armed (R141). -/
def State.pollExpiry (s : State) : Timer :=
  if s.walker.pollInterval = 0 then none else some (s.now + s.walker.pollInterval)

/-- Entry into RUNNING (R186, R141). -/
def State.enterRunning (s : State) : State :=
  let s := { s with ctrl := { s.ctrl with starting := none } }
  let s := { s with walker := { s.walker with pollTimer := s.pollExpiry } }
  (s.setEngine .running).setAllFlags

/-- A failed start-up (R187). -/
def State.enterFaulted (r : FaultReason) (s : State) : State :=
  { s with ctrl := { s.ctrl with starting := none, faultReason := r } }.setEngine .faulted

/-! ## Memory Port helpers (R174, R180) -/

/-- A requester presents an access (R174). -/
def State.present (r : Requester) (a : Access) (s : State) : State := s.setSlot r (some ⟨a, 0, []⟩)

/-- A fault: the access ends, the last-fault record is written and MEMFAULT is raised (R180). -/
def State.recordFault (r : Requester) (d : Direction) (address : Nat) (k : FaultKind) (s : State) : State :=
  let s := s.setSlot r none
  { s with port := { s.port with lastFault := some ⟨r, d, address, k⟩ } }.raise .memfault

/-- A run of bytes lies wholly inside the sheet window (R147 checks 2 and 7). -/
def State.insideSheet (s : State) (address bytes : Nat) : Bool :=
  match s.port.sheetWindow with
  | none => false
  | some w => decide (w.base ≤ address ∧ address + bytes ≤ w.limit)

/-- Reads and writes of the requesters (R174). -/
def readAccess (w : WindowClass) (address count : Nat) : Access := ⟨.read, w, address, count, []⟩
def writeAccess (address : Nat) (words : List Word) : Access := ⟨.write, .sheet, address, words.length, words⟩

/-! ## Calibration claims (R89 to R91) -/

/-- A claim on a set is returned: its use count falls by 1. -/
def State.releaseUse (c : SetId) (s : State) : State := s.updCalSet c fun k => { k with use := k.use - 1 }

/-! ## Settle judge (03) -/

/-- A judge transition is presented to record h (R64, R68). -/
def State.presentJudge (h : Head) (j : SettleJudge) (s : State) : State :=
  s.updInbox h fun b => { b with judgeMsgs := b.judgeMsgs ++ [j] }

/-- The fields a judge clear sets (03 "per-head state"). -/
def clearedJudge (x : HeadState) : HeadState :=
  { x with judge := .unsettled, inRun := 0, outRun := 0, prevTemp := none }

/-- A judge clear of head h; a transition if the judge was SETTLED (R68). -/
def State.judgeClear (h : Head) (s : State) : State :=
  if (s.headState h).judge = .settled then
    ((s.updHead h clearedJudge).raise .settle).presentJudge h .unsettled
  else s.updHead h clearedJudge

/-- No sample is between its judging event and the taking of its delivery (R58, log 9). -/
def State.betweenSamples (s : State) : Bool :=
  match s.corr.evaluator with
  | none => true
  | some e => e.phase = .between

/-- A frame of head h in processing is abandoned (R69, R70). -/
def State.abandonFrame (h : Head) (s : State) : State :=
  match s.corr.evaluator with
  | none => s
  | some e => if e.head = h then s.setEvaluator none else s

/-! ## Link transitions (R131) -/

/-- The link judge goes DOWN. A head reset does not present the transition to the record (R131). -/
def State.linkDown (h : Head) (toRecord : Bool) (s : State) : State :=
  let s := s.updLink h fun l =>
    { l with judge := .down, goodRun := 0, badRun := 0, silenceTimer := none, expected := none }
  let s := (s.raise .link).updDownMsgs h (· + 1)
  if toRecord then s.updInbox h fun b => { b with linkMsgs := b.linkMsgs ++ [.down] } else s

/-- The link judge goes UP, at the good frame that brings it up (R129, R131). -/
def State.linkUp (h : Head) (s : State) : State :=
  let s := s.updLink h fun l =>
    { l with judge := .up, goodRun := 0, badRun := 0, silenceTimer := some (s.now + l.silence) }
  (s.raise .link).updInbox h fun b => { b with linkMsgs := b.linkMsgs ++ [.up] }

/-- A receiver that is brought back to SEARCH, HUNT and DOWN with an empty queue (R134, R135); the judge's
transition is `linkDown`. -/
def restartedLink (l : LinkReceiver) : LinkReceiver :=
  { l with
    tracker := .search, lockRun := 0, missRun := 0, timing := 0, incoming := [], assembler := .hunt, hunt := [],
    header := [], bits := [], judge := .down, goodRun := 0, badRun := 0, silenceTimer := none,
    expected := none, queue := [] }

/-! ## Occupations (01) -/

/-- A queued trail record is still to be issued: its take is the record's and has not faulted (R22). -/
def State.trailStands (s : State) (e : QueueEntry) : Bool :=
  match e with
  | .trail h n _ _ => decide (n = (s.record h).takeNo) && !(s.record h).trailFault
  | .result _ | .drift _ | .stateWord _ => true

/-- Trail records of a past take or of a faulted trail leave the queue unissued (R22, R24). -/
def State.purgeTrails (s : State) : State :=
  { s with occ := { s.occ with queue := s.occ.queue.filter s.trailStands } }

/-- How many trail records the write queue holds (R22). -/
def State.queuedTrails (s : State) : Nat :=
  s.occ.queue.countP fun e =>
    match e with
    | .trail _ _ _ _ => true
    | .result _ | .drift _ | .stateWord _ => false

/-- The record is in flight and not yet WRITING. -/
def OccState.live : OccState → Bool
  | .identifying | .settling | .acquiring => true
  | .idle | .writing => false

/-- Entry into WRITING with an outcome (R21). -/
def State.endOccupation (h : Head) (o : OccOutcome) (s : State) : State :=
  let c := (s.record h).calSet
  let s := s.updRecord h fun r =>
    { r with state := .writing, step := some .result, outcome := some o, settleTimer := none,
             acquireTimer := none, graceTimer := none, joinFailed := false }
  (s.releaseUse c).enqueue (.result h)

/-- Entry into ACQUIRING (R8). -/
def acquiringRecord (now : Nat) (r : OccRecord) : OccRecord :=
  if r.acqSeen then { r with state := .acquiring, settleTimer := none }
  else { r with state := .acquiring, settleTimer := none, acqSeen := true,
                acquireTimer := some (now + r.acquireLimit * 1000) }

def State.enterAcquiring (h : Head) (s : State) : State := s.updRecord h (acquiringRecord s.now)

/-- Entry into SETTLING, on to ACQUIRING if the judge is SETTLED (R4). -/
def State.enterSettling (h : Head) (s : State) : State :=
  let t := s.updRecord h fun r => { r with state := .settling }
  if (s.headState h).judge = .settled then t.enterAcquiring h else t

/-- Lane h, BUSY, is to be looked at again (R141). -/
def State.requestBusyLook (n : Lane) (s : State) : State :=
  if s.ctrl.engine = .running ∧ (s.lane n).state = .busy then s.updLane n fun r => { r with flag := true }
  else s

/-- The lane of a head: lanes 0 to 3 carry the sheets of heads 0 to 3. -/
def laneOf (h : Head) : Lane := h.castSucc

/-- The record becomes IDLE; the walker and the Control Port are told (R26, R28, R141, R188). -/
def State.recordIdle (h : Head) (s : State) : State :=
  ((s.updRecord h fun r => { r with state := .idle, step := none }).requestBusyLook (laneOf h)).testStop

/-! ## Orders (09) -/

/-- An order is decided (R162). -/
def State.decideOrder (st : OrderStatus) (r : Reason) (s : State) : State :=
  { s with order := { s.order with status := some st, reason := r, stage := .answerWord } }

def State.orderDone (s : State) : State := s.decideOrder .done .none
def State.orderRefused (r : Reason) (s : State) : State := s.decideOrder .refused r

/-- An order ends; the walker and the Control Port are told (R162, R163). -/
def State.endOrder (s : State) : State :=
  (({ s with order := {} } : State).requestBusyLook 4).testStop

/-- The order in progress is presented to its owner with this code (R161). -/
def State.orderPresented (s : State) (code : Word) : Bool :=
  decide (s.order.stage = .acting .presented ∧ s.order.code = code)

/-- The head that argument 0 names (R161). -/
def headOfArg (x : Dword) : Head := Fin.ofNat 4 x.toNat

/-- The set that argument 0 names. -/
def setOfArg (x : Dword) : SetId := Fin.ofNat 8 x.toNat

/-- The reason that a faulted read gives an order (R93, R111, R160). -/
def reasonOfFault : FaultKind → Reason
  | .window => .window
  | .retryExhausted => .memory
  | .busError => .memory

/-! ## Looks (08) -/

/-- A look ends with the lane in a state; `again` sets its flag (R142). A carried-through look reports its
end to the Control Port (R154, R188). -/
def State.endLook (k : Look) (st : LaneState) (again : Bool) (s : State) : State :=
  let t := (s.updLane k.lane fun n => { n with state := st, flag := n.flag || again }).setLook none
  if k.stopped && k.placed then t.testStop else t

/-- A claim that a look holds is returned (R146, R154). -/
def State.returnClaim (k : Look) (s : State) : State :=
  match k.claim with
  | none => s
  | some c => s.releaseUse c

/-- A memory fault ends a look (R146). -/
def State.lookFault (k : Look) (s : State) : State := (s.returnClaim k).endLook k .held false

/-- A look that has placed no write ends after a STOP (R154). -/
def State.lookStopped (k : Look) (s : State) : State := (s.returnClaim k).endLook k k.before false

/-- The anchor moves to the look's candidate (R156, log 13). -/
def State.moveAnchor (k : Look) (s : State) : State :=
  s.updLane k.lane fun n => { n with anchor := some k.candidate, state := .waiting }

/-- A candidate address found by the look (R143). -/
def State.candidateAt (k : Look) (address : Word) (s : State) : State :=
  if address = 0 then
    s.endLook k (if (s.lane k.lane).anchor = none then .unrooted else .waiting) false
  else if address.toNat % 8 ≠ 0 then
    s.setLook (some { k with stage := .misaligned address, placed := false, claim := none, request := none })
  else
    s.setLook (some { k with stage := .headerRead, candidate := address, placed := false, claim := none,
                             request := none })

/-- The look goes on past its candidate, to which the anchor has moved: `counted` for a voided or refused
sheet (R142, R144, R150, R151). A look carried through after STOP ends here (R154). -/
def State.passCandidate (k : Look) (counted : Bool) (s : State) : State :=
  let s := s.moveAnchor k
  let k := if counted then { k with moved := k.moved + 1 } else k
  if k.stopped then s.endLook k .waiting false
  else if counted ∧ Config.lookLimit ≤ k.moved then s.endLook k .waiting true
  else s.candidateAt k k.next

/-- A check refuses the sheet: its claim is returned and the answer word is written next (R151). -/
def State.refuseSheet (k : Look) (r : Reason) (s : State) : State :=
  (s.returnClaim k).setLook (some { k with stage := .answerWrite r, claim := none })

end Sys2Proof.Machine
end

