-- ==== Sys2Proof/Machine/Control.lean ====
section
/-! DEFINITION. The Control Port (11): register writes, the engine state machine, resets, events and the status
timer; and the directory checks of STARTING (R187). -/

namespace Sys2Proof.Machine

/-! ## Resets (R2, R30, R54, R87, R100, R136, R140, R159, R175, R182, R189) -/

/-- Every block at its power-on values; the waiting commands are outside the part. -/
def State.powerOn (s : State) : State := { State.reset with pending := s.pending }

/-- A grant in flight at an engine reset finishes on the bus, and its answer is discarded (R182). -/
def discardGrant (g : Grant) : Grant := { g with discard := true, retryCount := 0 }

/-- An engine reset: the power-on values but for ROOT, EVENT_ENABLE, the attention configuration and a grant
in flight (R182, R189). -/
def State.engineReset (s : State) : State :=
  let r := s.powerOn
  { r with
    ctrl := { r.ctrl with
      attention := s.ctrl.attention, root := s.ctrl.root, eventEnable := s.ctrl.eventEnable }
    port := { r.port with grant := s.port.grant.map discardGrant } }

/-! ## Start-up (R187) -/

/-- A grant of the Control Port in flight whose answer will be discarded (R187). -/
def State.staleControlGrant (s : State) : Bool :=
  match s.port.grant with
  | none => false
  | some g => g.discard && decide (g.requester = .controlPort)

/-- The directory read is presented, unless a discarded grant of the Control Port is still in flight (R187). -/
def State.presentDirectory (s : State) : State :=
  if s.ctrl.starting = some .directory ∧ s.slot .controlPort = none ∧ s.staleControlGrant = false then
    s.present .controlPort (readAccess .none s.ctrl.directory.toNat Config.directoryWords)
  else s

/-- An abandoned refresh raises the generation counter by 2 (R187, R194). -/
def State.abandonRefresh (s : State) : State :=
  match s.ctrl.refresh with
  | none => s
  | some _ => { s with ctrl := { s.ctrl with refresh := none, generation := s.ctrl.generation + 2 } }

/-- A grant of the Control Port in flight at entry into STARTING finishes and its answer is discarded (R187); its retry
count is kept (R175). -/
def discardControlGrant (g : Grant) : Grant :=
  if g.requester = .controlPort then { g with discard := true } else g

/-- Entry into STARTING (R187, R175, R193). -/
def State.enterStarting (s : State) : State :=
  let s := s.abandonRefresh
  let s := { s with
    ctrl := { s.ctrl with
      directory := s.ctrl.root, faultReason := .none, starting := some .directory, statusAddress := none,
      statusTimer := none, refreshPending := false }
    port := { s.port with
      sheetWindow := none, tableWindow := none, retryLimit := Config.startRetryLimit,
      grantSize := Config.startGrantSize, grant := s.port.grant.map discardControlGrant } }
  ((s.setSlot .controlPort none).setEngine .starting).presentDirectory

/-! ## RUN and STOP (R186, R188, R154) -/

/-- The RUN command (R186). -/
def State.runCommand (s : State) : State :=
  match s.ctrl.engine with
  | .halted | .faulted => s.enterStarting
  | .stopped => s.enterRunning
  | .starting | .running | .stopping => s

/-- A look under way at a STOP (R154, log 15). -/
def State.stopLook (s : State) : State :=
  match s.walker.look with
  | none => s
  | some k =>
      if k.placed ∨ s.slot .sheetWalker ≠ none then s.setLook (some { k with stopped := true })
      else s.lookStopped k

/-- The STOP command (R186, R154, R188). -/
def State.stopCommand (s : State) : State :=
  match s.ctrl.engine with
  | .running =>
      let s := (s.setEngine .stopping).clearAllFlags
      let s := { s with walker := { s.walker with pollTimer := none } }
      s.stopLook.testStop
  | .halted | .faulted | .stopped | .starting | .stopping => s

/-- A write to CONTROL in one piece (R185): the configuration, then the commands. The four rows of the table
that write CONTROL are this function on their words (notes/assumptions/28.md). -/
def State.controlWrite (w : Word) (s : State) : State :=
  let s := s.loadConfig w
  if w.getLsbD 2 then s.engineReset
  else
    match w.getLsbD 0, w.getLsbD 1 with
    | true, false => s.runCommand
    | false, true => s.stopCommand
    | true, true => s
    | false, false => s

/-! ## The meanings -/

/-- POWER_ON_RESET (R189). -/
def execPowerOnReset (s : State) : Host.Outcome State Fault Refusal := .next s.powerOn

/-- RUN (R185, R186). -/
def execRun (w : Word) (s : State) : Host.Outcome State Fault Refusal := .next (s.loadConfig w).runCommand

/-- STOP (R185, R186, R154, R188). -/
def execStop (w : Word) (s : State) : Host.Outcome State Fault Refusal := .next (s.loadConfig w).stopCommand

/-- RESET (R185, R189, R182). -/
def execReset (w : Word) (s : State) : Host.Outcome State Fault Refusal := .next (s.loadConfig w).engineReset

/-- ATTENTION_CONFIGURATION (R185): neither RUN nor STOP is taken. -/
def execAttentionConfiguration (w : Word) (s : State) : Host.Outcome State Fault Refusal :=
  .next (s.loadConfig w)

/-- ROOT_WRITE (R184). -/
def execRootWrite (w : Word) (s : State) : Host.Outcome State Fault Refusal :=
  .next { s with ctrl := { s.ctrl with root := rootOf w } }

/-- NOTICE (R141, R184): the value written does not matter. -/
def execNotice (_w : Word) (s : State) : Host.Outcome State Fault Refusal :=
  .next (if s.ctrl.engine = .running then s.setAllFlags else s)

/-- EVENTS_CLEAR (R191). -/
def execEventsClear (w : Word) (s : State) : Host.Outcome State Fault Refusal :=
  .next { s with ctrl := { s.ctrl with events := s.ctrl.events &&& ~~~ (eventBitsOf w) } }

/-- REGISTER_WRITE (R184): EVENT_ENABLE is replaced; IDENT and STATE are not changed. -/
def execRegisterWrite (r : OtherRegister) (w : Word) (s : State) : Host.Outcome State Fault Refusal :=
  match r with
  | .ident => .next s
  | .state => .next s
  | .eventEnable => .next { s with ctrl := { s.ctrl with eventEnable := eventBitsOf w } }

/-- EVENT_ARRIVAL (R191): one raised event arrives. -/
def execEventArrival (e : Event) (s : State) : Host.Outcome State Fault Refusal :=
  .next (if e ∈ s.ctrl.raised then
    { s with ctrl := latchEvent e { s.ctrl with raised := s.ctrl.raised.erase e } } else s)

/-- STATUS_TIMER_EXPIRY (R193). -/
def execStatusTimerExpiry (s : State) : Host.Outcome State Fault Refusal :=
  .next (if s.due s.ctrl.statusTimer then
    { s with ctrl := { s.ctrl with statusTimer := some (s.now + s.ctrl.statusInterval) } }.requestRefresh
    else s)

/-! ## The directory checks (R187) -/

/-- A window whose base and limit are multiples of 8, the base below the limit. -/
def windowOk (w : Window) : Bool := decide (w.base % 8 = 0 ∧ w.limit % 8 = 0 ∧ w.base < w.limit)

/-- Check 3. -/
def windowsOk (d : Directory) : Bool :=
  windowOk d.sheetWindow && windowOk d.tableWindow &&
    decide (d.statusAddress.toNat % 8 = 0 ∧ d.sheetWindow.base ≤ d.statusAddress.toNat ∧
      d.statusAddress.toNat + Config.statusBlockBytes ≤ d.sheetWindow.limit)

/-- Check 4. -/
def rootsOk (d : Directory) : Bool :=
  d.roots.all fun r =>
    decide (r = 0 ∨ (r % 8 = 0 ∧ d.sheetWindow.base ≤ r ∧ r < d.sheetWindow.limit))

/-- Check 5. -/
def rangesOk (d : Directory) : Bool :=
  decide ((d.pollInterval = 0 ∨ (10 ≤ d.pollInterval ∧ d.pollInterval ≤ 60000)) ∧
    (d.statusInterval = 0 ∨ (100 ≤ d.statusInterval ∧ d.statusInterval ≤ 60000)) ∧
    (1 ≤ d.spanLimit ∧ d.spanLimit ≤ 1440) ∧ d.retryCode ≤ 3 ∧
    (4 ≤ d.grantSize ∧ d.grantSize ≤ 64) ∧ d.tideCount ≤ 4096 ∧
    (d.tideCount ≠ 0 → d.tideAddress % 8 = 0))

/-- The first check of the directory that fails (R187). -/
def directoryFault (ws : List Word) : Option FaultReason :=
  let d := parseDirectory ws
  if d.signature ≠ Config.signature then some .signature
  else if wordSum ws ≠ 0 then some .check
  else if ¬ windowsOk d then some .windows
  else if ¬ rootsOk d then some .roots
  else if ¬ rangesOk d then some .range
  else none

/-- Each owner loads its part of the directory, and the first address requests a refresh (R187, R193). -/
def State.loadDirectory (d : Directory) (s : State) : State :=
  let interval := d.statusInterval
  let s := { s with
    port := { s.port with
      sheetWindow := some d.sheetWindow, tableWindow := some d.tableWindow,
      retryLimit := retryLimitOf d.retryCode, grantSize := d.grantSize }
    walker := { s.walker with pollInterval := d.pollInterval, directory := s.ctrl.directory }
    drift := { s.drift with spanLimit := d.spanLimit }
    ctrl := { s.ctrl with
      statusAddress := some d.statusAddress, statusInterval := interval,
      statusTimer := if interval = 0 then none else some (s.now + interval), starting := some .scan } }
  s.requestRefresh

end Sys2Proof.Machine
end

