-- ==== Sys2Proof/Machine/Drift.lean ====
section
/-! DEFINITION. The Drift Unit (02): the loop check at a take, joins and base completions, the pending pool, batches and
their finalization, and the span timers. ABORT_LOOP and the second half of CANCEL stand with the orders. -/

namespace Sys2Proof.Machine

/-! ## The pool (R35) -/

def loopIds : List LoopId := [0, 1, 2, 3]

/-- The entries on the loops' pending lists. -/
def DriftUnit.pendingEntries (d : DriftUnit) : Nat := (loopIds.map fun l => d.loops[l].pending.length).sum

/-- The entries in batches. -/
def DriftUnit.batchEntries (d : DriftUnit) : Nat := (d.batches.map fun b => b.entries.length).sum

/-- The entries in use; the others of the 64 are free (R35). -/
def State.poolUsed (s : State) : Nat := s.drift.pendingEntries + s.drift.batchEntries

def State.poolFree (s : State) : Nat := Config.poolSize - s.poolUsed

/-! ## Loops -/

/-- A loop becomes FREE; its generation is kept (R40, R42, R50, R51). -/
def freedLoop (l : Loop) : Loop := { generation := l.generation }

/-- A batch joins the tail of the batch queue, unless it would hold no entry (R45). -/
def State.addBatch (k : BatchKind) (es : List PoolEntry) (s : State) : State :=
  match es with
  | [] => s
  | e :: rest => { s with drift := { s.drift with batches := s.drift.batches ++ [⟨k, e :: rest⟩] } }

/-- A loop's pending list is detached as a batch, and the loop becomes what `f` makes of it (R45). A change of
the loop's state raises LOOP (R53). -/
def State.detachLoop (l : LoopId) (k : BatchKind) (f : Loop → Loop) (s : State) : State :=
  (((s.updLoop l fun x => { f x with pending := [] }).addBatch k (s.loopAt l).pending)).raise .loop

/-- The expiry time of a loop's span (R49). -/
def State.spanExpiryAt (openElapsed : Nat) (s : State) : Nat := openElapsed + s.drift.spanLimit * 60000

/-- The expiry of a loop's span (R50). -/
def State.expireLoop (l : LoopId) (s : State) : State :=
  s.detachLoop l (.expired (s.loopAt l).openValue (s.loopAt l).baseRef) freedLoop

/-! ## The loop check at a take (R32 to R34) -/

/-- A BASE_OPEN take makes its loop OPENING (R32). -/
def openingLoop (l : Loop) : Loop :=
  { l with state := .opening, generation := l.generation + 1, openValue := 0, openTime := 0, baseRef := 0,
           openElapsed := 0, spanTimer := none }

/-- A BASE_CLOSE or BASE_TURN take makes its loop CLOSING (R33). -/
def closingLoop (l : Loop) : Loop := { l with state := .closing, spanTimer := none }

/-- The loop check of a take: the state after it, or none where the sheet is refused LOOP_STATE. -/
def State.loopCheck (role : Role) (l : LoopId) (s : State) : Option State :=
  match role, (s.loopAt l).state with
  | .baseOpen, .free => some ((s.updLoop l openingLoop).raise .loop)
  | .baseClose, .opened | .baseTurn, .opened => some ((s.updLoop l closingLoop).raise .loop)
  | .station, .opening | .station, .opened | .station, .closing => some s
  | .baseOpen, .opening | .baseOpen, .opened | .baseOpen, .closing => none
  | .baseClose, .free | .baseClose, .opening | .baseClose, .closing => none
  | .baseTurn, .free | .baseTurn, .opening | .baseTurn, .closing => none
  | .station, .free => none

/-! ## Joins (R36 to R43) -/

/-- The join is usable: its outcome is, and its result write did not fault (R26, R36). -/
def joinUsable (r : OccRecord) : Bool :=
  !r.joinFailed &&
    match r.outcome with
    | none => false
    | some o => o.usable

/-- A FINAL answer with no amount and no value (R36, R40, R43). -/
def finalAnswer (st : DriftStatus) (generation : BitVec 32) : DriftAnswer :=
  ⟨false, ⟨st, 0, 0, false, 0, generation⟩⟩

/-- The PROVISIONAL answer (R36). -/
def pendingAnswer (generation : BitVec 32) : DriftAnswer := ⟨true, ⟨.pending, 0, 0, false, 0, generation⟩⟩

/-- The FINAL answer of a usable base (R39, R41). -/
def baseAnswer (amount value : Int) (closeTime : Nat) (generation : BitVec 32) : DriftAnswer :=
  ⟨false, ⟨.base, amount, value, true, closeTime, generation⟩⟩

/-- The pool entry that a STATION join takes (R36). -/
def reservedEntry (h : Head) (r : OccRecord) : PoolEntry :=
  ⟨.reserved, h, none, midTimeOf r.acc, meanOf r.acc.sum r.acc.accepted, r.loopGen⟩

/-- A STATION join (R36, R37). -/
def State.joinStation (h : Head) (l : LoopId) (r : OccRecord) (s : State) : State × DriftAnswer :=
  if joinUsable r = false then (s, finalAnswer .notUsable r.loopGen)
  else if (s.loopAt l).generation ≠ r.loopGen then (s, finalAnswer .staleLoop r.loopGen)
  else if (s.loopAt l).state = .free then (s, finalAnswer .noLoop r.loopGen)
  else if s.poolFree = 0 then (s.raise .pool, finalAnswer .poolFull r.loopGen)
  else
    (s.updLoop l fun x => { x with pending := x.pending ++ [reservedEntry h r] }, pendingAnswer r.loopGen)

/-- base_ref of a sheet, 0 where the options do not mark it present (R27, R39). -/
def givenBaseRef (r : OccRecord) : Int := if r.options.baseRefPresent then r.baseRef else 0

/-- A loop that a usable base anchors: open from this event (R39, R42, R49). -/
def State.anchoredLoop (value : Int) (time : Nat) (baseRef : Int) (s : State) (x : Loop) : Loop :=
  { x with state := .opened, openValue := value, openTime := time, baseRef := baseRef, openElapsed := s.now,
           spanTimer := some (s.spanExpiryAt s.now) }

/-- A BASE_OPEN join (R39, R40). -/
def State.joinOpen (l : LoopId) (r : OccRecord) (s : State) : State × DriftAnswer :=
  if joinUsable r then
    ((s.updLoop l (s.anchoredLoop (meanOf r.acc.sum r.acc.accepted) (midTimeOf r.acc) (givenBaseRef r))).raise
        .loop,
      baseAnswer 0 (givenBaseRef r) 0 r.loopGen)
  else (s.detachLoop l .noLoop freedLoop, finalAnswer .notUsable r.loopGen)

/-- The CLOSED batch that a usable close forms (R41, R45). -/
def closedKind (r : OccRecord) (x : Loop) : BatchKind :=
  .closed (meanOf r.acc.sum r.acc.accepted - x.openValue) ((midTimeOf r.acc : Int) - x.openTime) x.openValue
    x.openTime x.baseRef (midTimeOf r.acc) x.generation

/-- The loop after a usable BASE_TURN (R42). -/
def State.turnedLoop (r : OccRecord) (s : State) (x : Loop) : Loop :=
  s.anchoredLoop (meanOf r.acc.sum r.acc.accepted) (midTimeOf r.acc) x.baseRef
    { x with generation := x.generation + 1 }

/-- A close that is not usable returns the loop to OPEN, or expires it if its span has passed (R43, log 25). -/
def State.reopenLoop (l : LoopId) (s : State) : State :=
  let expiry := s.spanExpiryAt (s.loopAt l).openElapsed
  if expiry ≤ s.now then ((s.updLoop l fun x => { x with state := .opened }).raise .loop).expireLoop l
  else (s.updLoop l fun x => { x with state := .opened, spanTimer := some expiry }).raise .loop

/-- A BASE_CLOSE or BASE_TURN join (R41 to R43). -/
def State.joinClose (turn : Bool) (l : LoopId) (r : OccRecord) (s : State) : State × DriftAnswer :=
  if joinUsable r then
    let x := s.loopAt l
    (s.detachLoop l (closedKind r x) (if turn then s.turnedLoop r else freedLoop),
      baseAnswer (meanOf r.acc.sum r.acc.accepted - x.openValue) x.baseRef (midTimeOf r.acc) r.loopGen)
  else (s.reopenLoop l, finalAnswer .notUsable r.loopGen)

/-- The join of a record, by its role (R36, R39 to R43). -/
def State.joinOf (h : Head) (r : OccRecord) (s : State) : State × DriftAnswer :=
  match r.loopId with
  | none => (s, finalAnswer .none r.loopGen)
  | some l =>
      match r.role with
      | .station => s.joinStation h l r
      | .baseOpen => s.joinOpen l r
      | .baseClose => s.joinClose false l r
      | .baseTurn => s.joinClose true l r

/-- The record takes the answer: on to the drift write, or IDLE after a failed join (R26, R27). -/
def State.joinAnswered (h : Head) (a : DriftAnswer) (s : State) : State :=
  if (s.record h).joinFailed then s.recordIdle h
  else (s.updRecord h fun r => { r with answer := a, step := some .drift }).enqueue (.drift h)

/-! ## Reports (R38) -/

/-- The RESERVED entry of a head. -/
def isReservedOf (h : Head) (e : PoolEntry) : Bool := decide (e.phase = .reserved ∧ e.head = h)

/-- A landing report makes the entry HELD. -/
def landedEntry (h : Head) (l : Landing) (e : PoolEntry) : PoolEntry :=
  if isReservedOf h e then { e with phase := .held, landing := some l } else e

def State.mapLoops (f : Loop → Loop) (s : State) : State :=
  { s with drift := { s.drift with loops := s.drift.loops.map f } }

/-- The report of a head acts on its entry wherever it stands. -/
def State.landReport (h : Head) (l : Landing) (s : State) : State :=
  let s := s.mapLoops fun x => { x with pending := x.pending.map (landedEntry h l) }
  { s with drift := { s.drift with
      batches := s.drift.batches.map fun b => { b with entries := b.entries.map (landedEntry h l) } } }

/-- A failure report frees the entry; a batch that holds no further entry is gone (R45). -/
def State.failReport (h : Head) (s : State) : State :=
  let s := s.mapLoops fun x => { x with pending := x.pending.filter fun e => !isReservedOf h e }
  { s with drift := { s.drift with
      batches := (s.drift.batches.map fun b =>
        { b with entries := b.entries.filter fun e => !isReservedOf h e }).filter fun b => !b.entries.isEmpty } }

/-! ## Finalization (R46 to R48) -/

/-- The drift fields of a finalized entry (R46); R47's bounds are taken at the write. -/
def finalFields (k : BatchKind) (e : PoolEntry) : DriftFields :=
  match k with
  | .closed d t v t0 ref closeTime _ =>
      if 0 < t then
        let di := roundDiv (d * ((e.midTime : Int) - t0)) t.toNat
        ⟨.applied, di, e.mean - v - di + ref, true, closeTime, e.loopGen⟩
      else ⟨.zeroSpan, 0, e.mean - v + ref, true, closeTime, e.loopGen⟩
  | .expired v ref => ⟨.expired, 0, e.mean - v + ref, true, 0, e.loopGen⟩
  | .aborted v ref => ⟨.aborted, 0, e.mean - v + ref, true, 0, e.loopGen⟩
  | .noLoop => ⟨.noLoop, 0, 0, false, 0, e.loopGen⟩
  | .withdrawn => ⟨.withdrawn, 0, 0, false, 0, e.loopGen⟩

/-- The access of the finalization in progress (R48, R196). -/
def finalAccess (w : FinalWrite) (k : BatchKind) (e : PoolEntry) (l : Landing) : Access :=
  match w with
  | .drift => writeAccess (l.sheet.toNat + 0xA0) (driftWords l.trailOverflow l.trailFault (finalFields k e))
  | .stateWord => writeAccess l.sheet.toNat [stateFinal]

/-- The entry under finalization, with the kind of its batch. -/
def State.finalEntry (s : State) : Option (BatchKind × PoolEntry) :=
  match s.drift.batches with
  | [] => none
  | b :: _ =>
      match b.entries with
      | [] => none
      | e :: _ => some (b.kind, e)

/-- The access that the Drift Unit presents next. -/
def State.driftAccess (s : State) : Option Access :=
  match s.drift.finalizing, s.finalEntry with
  | some w, some (k, e) => e.landing.map (finalAccess w k e)
  | _, _ => none

/-- The batches without their first entry. -/
def dropFirstEntry : List Batch → List Batch
  | [] => []
  | b :: rest =>
      match b.entries with
      | [] => rest
      | [_] => rest
      | _ :: e :: es => { b with entries := e :: es } :: rest

/-- The finalization in progress ends and its entry becomes free (R48). -/
def State.endFinalization (s : State) : State :=
  { s with drift := { s.drift with finalizing := none, batches := dropFirstEntry s.drift.batches } }

/-- A finalization write is answered OKAY (R48). -/
def State.driftOkay (s : State) : State :=
  match s.drift.finalizing with
  | none => s
  | some .drift => { s with drift := { s.drift with finalizing := some .stateWord } }
  | some .stateWord => s.endFinalization.raise .sheet

/-- A finalization write ends in a fault (R48). -/
def State.driftFault (s : State) : State :=
  match s.drift.finalizing with
  | none => s
  | some _ => s.endFinalization

/-- The first entry of the oldest batch becomes WRITING. -/
def beginFirstEntry : List Batch → List Batch
  | [] => []
  | b :: rest =>
      match b.entries with
      | [] => b :: rest
      | e :: es => { b with entries := { e with phase := .writing } :: es } :: rest

/-! ## The meanings -/

/-- JOIN (R36 to R43); the last occupation's report of the head is taken before (log 8). -/
def execJoin (h : Head) (s : State) : Host.Outcome State Fault Refusal :=
  let r := s.record h
  if r.state = .writing ∧ r.step = some .join ∧ s.reportAt h = none then
    let p := s.joinOf h r
    .next (p.1.joinAnswered h p.2)
  else .next s

/-- LANDING_REPORT (R38). -/
def execLandingReport (h : Head) (s : State) : Host.Outcome State Fault Refusal :=
  match s.reportAt h with
  | some (.landing l) => .next ((s.setReport h none).landReport h l)
  | some .failure => .next s
  | none => .next s

/-- FAILURE_REPORT (R38). -/
def execFailureReport (h : Head) (s : State) : Host.Outcome State Fault Refusal :=
  match s.reportAt h with
  | some .failure => .next ((s.setReport h none).failReport h)
  | some (.landing _) => .next s
  | none => .next s

/-- SPAN_EXPIRY (R50). -/
def execSpanExpiry (l : LoopId) (s : State) : Host.Outcome State Fault Refusal :=
  if (s.loopAt l).state = .opened ∧ s.due (s.loopAt l).spanTimer = true then .next (s.expireLoop l)
  else .next s

/-- FINALIZATION_ENTRY (R48): the next entry, once HELD, becomes WRITING. -/
def execFinalizationEntry (s : State) : Host.Outcome State Fault Refusal :=
  match s.drift.finalizing, s.finalEntry with
  | none, some (_, e) =>
      if e.phase = .held then
        .next { s with drift := { s.drift with
          finalizing := some .drift, batches := beginFirstEntry s.drift.batches } }
      else .next s
  | _, _ => .next s

end Sys2Proof.Machine
end

