-- ==== Sys2Proof/Machine/Intake.lean ====
section
/-! DEFINITION. The Correction Unit (03, 04): the queue arbiter, identity, the judging of a sample, the forming of its
delivery, and a link loss at the unit. -/

namespace Sys2Proof.Machine

/-! ## The evaluator -/

/-- A delivery has been taken, or the sample goes no further: the next sample of the frame, or the end of the
frame (R55, R67). -/
def State.sampleDone (e : Evaluator) (s : State) : State :=
  match e.remaining with
  | [] => s.setEvaluator none
  | _ :: _ => s.setEvaluator (some { e with phase := .between })

/-- The heads in the order in which the arbiter looks at them (R55). -/
def arbiterOrder (p : Head) : List Head := [p, p + 1, p + 2, p + 3]

/-- The oldest frame of a head's queue, with its head. -/
def State.oldestFrame (s : State) (h : Head) : Option (Head × Frame) :=
  match (s.link h).queue with
  | [] => none
  | f :: _ => some (h, f)

/-- The arbiter's choice (R55). -/
def State.chosenFrame (s : State) : Option (Head × Frame) :=
  (arbiterOrder s.corr.pointer).findSome? s.oldestFrame

/-- The chosen frame leaves its queue and the pointer moves on (R55). -/
def State.removeFrame (h : Head) (s : State) : State :=
  let s := s.updLink h fun l => { l with queue := l.queue.tail }
  { s with corr := { s.corr with pointer := h + 1 } }

/-- The identity that an IDENT payload gives (R57, R127, 12 "link frame"). -/
def identified (p : List Byte) (x : HeadState) : HeadState :=
  { x with known := true, serial := payloadWord p 0, kind := payloadByte p 4, rate := payloadByte p 5 }

/-- The identity report of an IDENT payload, with whether it is a change (R57). -/
def identityReportOf (x : HeadState) (p : List Byte) : IdentityMsg :=
  ⟨payloadWord p 0, x.known && decide (x.serial ≠ payloadWord p 0)⟩

/-- An IDENT frame taken by the evaluator (R57). -/
def State.takeIdent (h : Head) (f : Frame) (s : State) : State :=
  let m := identityReportOf (s.headState h) f.payload
  (s.updHead h (identified f.payload)).updInbox h fun b => { b with identityMsgs := b.identityMsgs ++ [m] }

/-- The occupation context of a frame of head h (R56). -/
def State.contextOf (h : Head) (s : State) : Option Context :=
  let r := s.record h
  if r.state.live then some ⟨r.takeNo, r.calSet, r.options, (s.calSet r.calSet).contents⟩ else none

/-- The evaluator begins a SAMPLE frame (R56). -/
def State.beginFrame (h : Head) (f : Frame) (s : State) : State :=
  match samplesOf f.payload with
  | [] => s
  | x :: xs => s.setEvaluator (some ⟨h, f, s.contextOf h, x :: xs, .between⟩)

/-! ## The judging event (R58 to R64) -/

/-- The latency that a context gives (R59). -/
def latencyOf : Option Context → Nat
  | none => 0
  | some c => c.cal.latency

/-- A sample of a frame with a context fails its gates (R62). -/
def gateFails (c : Option Context) (x : HeadState) (smp : Sample) : Bool :=
  match c with
  | none => false
  | some c => !gatesPass c.cal x smp

/-- A sample goes on to its delivery, or ends here without a context (R58). -/
def State.toDelivery (e : Evaluator) (smp : Sample) (t : Nat) (cls : SampleClass) (caused : Bool) (s : State) :
    State :=
  match e.context with
  | none => s.sampleDone e
  | some _ => s.setEvaluator (some { e with phase := .judged smp t cls caused })

/-- The settle judge takes a sample; a change of its state raises SETTLE and is presented (R64). -/
def State.judge (h : Head) (smp : Sample) (s : State) : State :=
  let y := judgeSample (s.headState h) smp
  let t := s.updHead h fun _ => y
  if y.judge = (s.headState h).judge then t else (t.raise .settle).presentJudge h y.judge

/-- The judging event of a sample; `e` holds the samples after it (R58). -/
def State.judgeNext (e : Evaluator) (smp : Sample) (s : State) : State :=
  let x := s.headState e.head
  let t := sampleTime e.frame.surveyStamp (latencyOf e.context) smp.offset
  let s := s.updHead e.head fun y => { y with phase := cadencePhase y }
  if cadencePasses x = false then s.sampleDone e
  else if smp.flagged then s.toDelivery e smp t .flagged false
  else if gateFails e.context x smp then s.toDelivery e smp t .gateFailed false
  else
    let caused := decide ((judgeSample x smp).judge ≠ x.judge)
    (s.judge e.head smp).toDelivery e smp t (.judged (isLevel x smp)) caused

/-! ## The forming of the delivery (R65, R66, R72) -/

/-- The table of R65; ACCEPTED stands for "candidate". The record is IDENTIFYING, SETTLING or ACQUIRING. -/
def formedDisposition (st : OccState) (judge : SettleJudge) (cls : SampleClass) : Disposition :=
  match cls with
  | .flagged => .rejHead
  | .gateFailed => .rejGate
  | .judged level =>
      match st with
      | .identifying => .waitId
      | .idle | .settling | .writing => .settling
      | .acquiring =>
          match judge with
          | .unsettled => .settling
          | .settled => if level then .accepted else .rejTilt

/-- A candidate's terms are formed; with tide enabled it waits for the Tide Unit (R66, R72, R80). -/
def State.formTerms (e : Evaluator) (c : Context) (smp : Sample) (t : Nat) (s : State) : State :=
  let k := formCandidate c (s.headState e.head) smp
  if c.options.tide then s.setEvaluator (some { e with phase := .awaitingTide smp t k })
  else s.setEvaluator (some { e with phase := .crediting smp t (k.finish 0) })

/-- The delivery of a judged sample is formed (R65). -/
def State.formDelivery (e : Evaluator) (c : Context) (smp : Sample) (t : Nat) (cls : SampleClass) (s : State) :
    State :=
  let r := s.record e.head
  if r.state.live ∧ r.takeNo = c.takeNo then
    match formedDisposition r.state (s.headState e.head).judge cls with
    | .accepted => s.formTerms e c smp t
    | d => s.setEvaluator (some { e with phase := .delivering smp t d })
  else s.sampleDone e

/-! ## The meanings -/

/-- FRAME_CHOICE (R55 to R57). -/
def execFrameChoice (s : State) : Host.Outcome State Fault Refusal :=
  match s.corr.evaluator with
  | some _ => .next s
  | none =>
      match s.chosenFrame with
      | none => .next s
      | some (h, f) =>
          match f.kind with
          | .ident => .next ((s.removeFrame h).takeIdent h f)
          | .sample => .next ((s.removeFrame h).beginFrame h f)

/-- JUDGING_EVENT (R58 to R64). -/
def execJudgingEvent (s : State) : Host.Outcome State Fault Refusal :=
  match s.corr.evaluator with
  | none => .next s
  | some e =>
      match e.phase, e.remaining with
      | .between, smp :: rest => .next (s.judgeNext { e with remaining := rest } smp)
      | _, _ => .next s

/-- DELIVERY_FORMING (R65, R66, R72): once a transition that the sample caused has been taken at the record. -/
def execDeliveryForming (s : State) : Host.Outcome State Fault Refusal :=
  match s.corr.evaluator with
  | none => .next s
  | some e =>
      match e.phase, e.context with
      | .judged smp t cls caused, some c =>
          if caused = true ∧ (s.inbox e.head).judgeMsgs ≠ [] then .next s
          else .next (s.formDelivery e c smp t cls)
      | _, _ => .next s

/-- LINK_DOWN_AT_CORRECTION (R68); held while a sample is under evaluation (R58). -/
def execLinkDownAtCorrection (h : Head) (s : State) : Host.Outcome State Fault Refusal :=
  if s.corr.downMsgs[h] ≠ 0 ∧ s.betweenSamples = true then
    .next ((s.updDownMsgs h (· - 1)).judgeClear h)
  else .next s

end Sys2Proof.Machine
end

