-- ==== Sys2Proof/Machine/Link.lean ====
section
/-! DEFINITION. The Link Receivers (07): the bit tracker, the frame assembler, the link judge and the frame queue. -/

namespace Sys2Proof.Machine

/-! ## Bits from the tracker to the assembler (R119, R121 to R123, log 12) -/

/-- The bits the assembler takes next: those it has not yet taken, then those of the cells. -/
def bitsToTake (l : LinkReceiver) (cells : List TrackCell) : List Bool :=
  l.incoming ++ cellBits l.rate l.timing cells

/-- Every cell has its boundary transition (R119). -/
def allPresent (l : LinkReceiver) (cells : List TrackCell) : Bool := cellsPresent l.rate l.timing cells

/-- miss_run after cells that have their boundary transition (R119). -/
def missRunAfter (l : LinkReceiver) (cells : List TrackCell) : Nat := if cells = [] then l.missRun else 0

/-- The tracker after a run of cells that have their boundary transitions, realigned on each (R119). -/
def tracked (cells : List TrackCell) (l : LinkReceiver) : LinkReceiver :=
  { l with missRun := missRunAfter l cells, timing := placeAfter l.rate l.timing cells, incoming := [] }

/-- The last 16 bits delivered in HUNT after one more bit (R121). -/
def huntWindow (w : List Bool) (b : Bool) : List Bool := (w ++ [b]).drop (w.length + 1 - 16)

/-- HUNT over a run of bits: the window at the end, and, at the first match of the start mark, the bits after
it (R121). -/
def huntBits (w : List Bool) : List Bool → List Bool × Option (List Bool)
  | [] => (w, none)
  | b :: bs => if huntWindow w b = Config.startMark then ([], some bs) else huntBits (huntWindow w b) bs

/-- The payload length that the checked header gives (R122). -/
def headerLength (header : List Byte) : Nat := (header.getD 3 0).toNat

/-- How many bits complete the present part of the frame (R122, R123). -/
def bitsExpected (l : LinkReceiver) : Nat :=
  match l.assembler with
  | .hunt => 0
  | .header => 40
  | .payload => 8 * (headerLength l.header + 2)

/-- The assembler after bits that complete nothing; none if they complete a mark, a header or a frame. -/
def absorbBits (l : LinkReceiver) (bs : List Bool) : Option LinkReceiver :=
  match l.assembler with
  | .hunt =>
      match huntBits l.hunt bs with
      | (w, none) => some { l with hunt := w }
      | (_, some _) => none
  | .header | .payload =>
      if (l.bits ++ bs).length < bitsExpected l then some { l with bits := l.bits ++ bs }
      else none

/-- The assembler back in HUNT, the frame in assembly discarded (R121, R124). -/
def huntingLink (l : LinkReceiver) : LinkReceiver :=
  { l with assembler := .hunt, hunt := [], header := [], bits := [] }

/-! ## Counters (R133) -/

def addHeaderErr (c : Counters) : Counters := { c with headerErr := c.headerErr + 1 }
def addKindErr (c : Counters) : Counters := { c with kindErr := c.kindErr + 1 }
def addChannelErr (c : Counters) : Counters := { c with channelErr := c.channelErr + 1 }
def addLengthErr (c : Counters) : Counters := { c with lengthErr := c.lengthErr + 1 }
def addCrcErr (c : Counters) : Counters := { c with crcErr := c.crcErr + 1 }

/-! ## The link judge (R129, R130) -/

/-- A bad frame event at the link judge (R129, R130). -/
def State.badFrame (h : Head) (s : State) : State :=
  match (s.link h).judge with
  | .down => s.updLink h fun l => { l with goodRun := 0 }
  | .up =>
      if (s.link h).linkOut ≤ (s.link h).badRun + 1 then s.linkDown h true
      else s.updLink h fun l => { l with badRun := l.badRun + 1 }

/-- A good frame at the link judge (R129, R130). -/
def State.judgeGoodFrame (h : Head) (s : State) : State :=
  match (s.link h).judge with
  | .down =>
      if (s.link h).linkIn ≤ (s.link h).goodRun + 1 then s.linkUp h
      else s.updLink h fun l => { l with goodRun := l.goodRun + 1 }
  | .up =>
      s.updLink h fun l => { l with badRun := 0, silenceTimer := some (s.now + l.silence) }

/-- A frame error: the frame is discarded and counted, and the judge takes a bad frame event (R124). -/
def State.frameError (h : Head) (count : Counters → Counters) (s : State) : State :=
  (s.updLink h fun l => { huntingLink l with counters := count l.counters }).badFrame h

/-! ## Good frames (R125, R128, R132) -/

/-- Sequence tracking: the gap and the new expected number (R128). -/
def sequenced (q : Byte) (l : LinkReceiver) : LinkReceiver :=
  match l.expected with
  | none => { l with expected := some (q + 1) }
  | some e =>
      { l with expected := some (q + 1),
               counters := { l.counters with gaps := l.counters.gaps + (q - e).setWidth 32 } }

/-- A good frame is offered to the frame queue (R132). -/
def State.offerFrame (h : Head) (f : Frame) (s : State) : State :=
  if (s.link h).queue.length < Config.frameQueueSize then
    s.updLink h fun l => { l with queue := l.queue ++ [f] }
  else
    (s.updLink h fun l =>
      { l with counters := { l.counters with overflows := l.counters.overflows + 1 } }).raise .overflow

/-- A good frame completes (R125): stamped, counted, judged, then sequenced and queued, or let go. -/
def State.goodFrame (h : Head) (kind : FrameKind) (sequence : Byte) (payload : List Byte) (s : State) :
    State :=
  let f : Frame := ⟨kind, sequence, payload, s.ctrl.elapsed, s.survey⟩
  let s := s.updLink h fun l => { l with counters := { l.counters with good := l.counters.good + 1 } }
  let s := s.judgeGoodFrame h
  match (s.link h).judge with
  | .up => (s.updLink h (sequenced sequence)).offerFrame h f
  | .down =>
      s.updLink h fun l => { l with counters := { l.counters with unqueued := l.counters.unqueued + 1 } }

/-! ## Headers and frames (R122, R123) -/

/-- The first header check that fails (R122), as the counter it raises. -/
def headerFault (h : Head) (bytes : List Byte) : Option (Counters → Counters) :=
  if headerSum bytes ≠ 0xFF then some addHeaderErr
  else
    match frameKind (bytes.getD 0 0) with
    | none => some addKindErr
    | some k =>
        if bytes.getD 1 0 ≠ BitVec.ofNat 8 h.val then some addChannelErr
        else if lengthAllowed k (headerLength bytes) = false then some addLengthErr
        else none

/-- The fifth header byte is complete (R122). -/
def State.checkHeader (h : Head) (bytes : List Byte) (s : State) : State :=
  match headerFault h bytes with
  | some count => s.frameError h count
  | none => s.updLink h fun l => { l with assembler := .payload, header := bytes, bits := [], hunt := [] }

/-- The second CRC byte is complete (R123). `bytes` are the payload and the received CRC. -/
def State.checkFrame (h : Head) (bytes : List Byte) (s : State) : State :=
  let header := (s.link h).header
  let n := headerLength header
  let payload := bytes.take n
  let received : BitVec 16 := bytes.getD (n + 1) 0 ++ bytes.getD n 0
  if crc16 (header ++ payload) = received then
    match frameKind (header.getD 0 0) with
    | some k => (s.updLink h huntingLink).goodFrame h k (header.getD 2 0) payload
    | none => s.frameError h addCrcErr
  else s.frameError h addCrcErr

/-! ## The tracker (R118 to R120) -/

/-- lock_run over a run of intervals, and, at the lock, the intervals after it (R118). A line that stops changing counts
as one interval, at the transition that ends the pause, and lock_run stands until then (DESIGN CHOICE, log 37). -/
def lockOver (r : Rate) (run : Nat) : List Interval → Nat × Option (List Interval)
  | [] => (run, none)
  | v :: vs =>
      if intervalWellFormed r v then
        if run + 1 = Config.lockCells then (0, some vs) else lockOver r (run + 1) vs
      else lockOver r 0 vs

/-- The timing loss of R120 at a receiver: the tracker, the assembler and the counters. -/
def lossLink (l : LinkReceiver) : LinkReceiver :=
  let c := { l.counters with
    timingLosses := l.counters.timingLosses + 1, missedCells := l.counters.missedCells + 1,
    aborted := if l.assembler = .hunt then l.counters.aborted else l.counters.aborted + 1 }
  { huntingLink l with
    tracker := .search, lockRun := 0, missRun := 0, timing := 0, incoming := [], counters := c }

/-! ## The meanings -/

/-- The end of the last of a run of intervals, where the next cell begins; 0 of none. -/
def lastFinish (intervals : List Interval) : Nat :=
  match intervals.getLast? with
  | none => 0
  | some v => v.finish

/-- The lock (R118): the cell timing is that of the cells that brought it. -/
def lockedLink (place : Nat) (l : LinkReceiver) : LinkReceiver :=
  { l with tracker := .track, lockRun := 0, missRun := 0, timing := l.rate.place place, incoming := [] }

/-- TRACKER_LOCK (R118): the intervals count; the sixteenth well-formed one in a row enters TRACK. -/
def execTrackerLock (h : Head) (intervals : List Interval) (s : State) : Host.Outcome State Fault Refusal :=
  if (s.link h).tracker = .search then
    match lockOver (s.link h).rate (s.link h).lockRun intervals with
    | (run, none) => .next (s.updLink h fun l => { l with lockRun := run })
    | (_, some []) => .next (s.updLink h (lockedLink (lastFinish intervals)))
    | (_, some (_ :: _)) => .next s
  else .next s

/-- START_MARK (R121). -/
def execStartMark (h : Head) (cells : List TrackCell) (s : State) : Host.Outcome State Fault Refusal :=
  if (s.link h).tracker = .track ∧ (s.link h).assembler = .hunt ∧ allPresent (s.link h) cells = true then
    match huntBits (s.link h).hunt (bitsToTake (s.link h) cells) with
    | (w, none) => .next (s.updLink h fun l => { tracked cells l with hunt := w })
    | (_, some []) =>
        .next (s.updLink h fun l =>
          { tracked cells l with assembler := .header, hunt := [], header := [], bits := [] })
    | (_, some (_ :: _)) => .next s
  else .next s

/-- Bits of a header or of a payload with its CRC: below the expected number they are collected, at it the
part is complete and checked, above it this is not the next event. -/
def State.collect (h : Head) (cells : List TrackCell) (complete : List Byte → State → State) (s : State) :
    State :=
  let l := s.link h
  let bs := l.bits ++ bitsToTake l cells
  if bs.length < bitsExpected l then
    s.updLink h fun l => { tracked cells l with bits := bs }
  else if bs.length = bitsExpected l then
    complete (bytesOfBits bs) (s.updLink h fun l => { tracked cells l with bits := [] })
  else s

/-- HEADER_COMPLETE (R122, R124). -/
def execHeaderComplete (h : Head) (cells : List TrackCell) (s : State) : Host.Outcome State Fault Refusal :=
  if (s.link h).tracker = .track ∧ (s.link h).assembler = .header ∧ allPresent (s.link h) cells = true then
    .next (s.collect h cells (State.checkHeader h))
  else .next s

/-- FRAME_END (R123 to R125). -/
def execFrameEnd (h : Head) (cells : List TrackCell) (s : State) : Host.Outcome State Fault Refusal :=
  if (s.link h).tracker = .track ∧ (s.link h).assembler = .payload ∧ allPresent (s.link h) cells = true then
    .next (s.collect h cells (State.checkFrame h))
  else .next s

/-- A lone missed cell at a receiver: it is counted, its bit is still delivered, and the timing runs on (R119). -/
def missedLink (cell : TrackCell) (l : LinkReceiver) : LinkReceiver :=
  { l with missRun := 1, timing := nextPlace l.rate l.timing cell, incoming := [cellBit l.rate l.timing cell],
           counters := { l.counters with missedCells := l.counters.missedCells + 1 } }

/-- MISSED_CELL (R119): a lone missed cell after the cells given. -/
def execMissedCell (h : Head) (cells : List TrackCell) (cell : TrackCell) (s : State) :
    Host.Outcome State Fault Refusal :=
  let l := tracked cells (s.link h)
  if l.tracker = .track ∧ allPresent (s.link h) cells = true ∧ cellPresent l.rate l.timing cell = false ∧
      l.missRun = 0 then
    match absorbBits l (bitsToTake (s.link h) cells) with
    | none => .next s
    | some l => .next (s.updLink h fun _ => missedLink cell l)
  else .next s

/-- TIMING_LOSS (R120): the cell after a lone missed cell is missed too. -/
def execTimingLoss (h : Head) (cell : TrackCell) (s : State) : Host.Outcome State Fault Refusal :=
  if (s.link h).tracker = .track ∧ (s.link h).missRun = 1 ∧
      cellPresent (s.link h).rate (s.link h).timing cell = false then
    match absorbBits (s.link h) (s.link h).incoming with
    | none => .next s
    | some _ => .next ((s.updLink h lossLink).badFrame h)
  else .next s

/-- SILENCE_EXPIRY (R130). -/
def execSilenceExpiry (h : Head) (s : State) : Host.Outcome State Fault Refusal :=
  .next (if (s.link h).judge = .up ∧ s.due (s.link h).silenceTimer = true then s.linkDown h true else s)

end Sys2Proof.Machine
end

