-- ==== Sys2Proof/Machine/Occupation.lean ====
section
/-! DEFINITION. The Occupation Controller (01): the record's take, its messages, deliveries and timers, and the occupation
write queue with the answers of its writes. CANCEL and HEAD_RESET stand with the orders. -/

namespace Sys2Proof.Machine

/-! ## The take of the record (R3 to R5) -/

/-- The fields a take loads; the state that follows is set by `takeRecord` (R3). The answer changes at joins alone. -/
def takenRecord (now : Nat) (sheet : Word) (q : StationRequest) (role : Role) (loop : Option LoopId)
    (loopGen : BitVec 32) (c : SetId) (r : OccRecord) : OccRecord :=
  { state := .identifying, takeNo := r.takeNo + 1, sheet := sheet, role := role, loopId := loop,
    loopGen := loopGen, calSet := c, options := q.options, baseRef := q.baseRef, target := q.target,
    minGood := q.minGood, settleLimit := q.settleLimit, acquireLimit := q.acquireLimit,
    linkGrace := q.linkGrace, maxIntr := q.maxIntr, trailCap := q.trailCap,
    trailBase := sheet.toNat + Config.stationSheetBytes, settleTimer := some (now + q.settleLimit * 1000),
    answer := r.answer }

/-- A link loss at the record: the grace timer, or the end with no grace (R5, R17). The grace is measured from the event
at which the record takes the loss, which may come after the link judge's own change (DESIGN CHOICE, log 32). -/
def State.linkLoss (h : Head) (s : State) : State :=
  let r := s.record h
  if r.linkGrace = 0 then s.endOccupation h .linkLost
  else s.updRecord h fun r => { r with graceTimer := some (s.now + r.linkGrace * 1000) }

/-- Record h takes a station sheet (R3 to R5). What was presented to it before this event found it with no occupation
and has no effect on this one, so its inbox is emptied (R4, R17, R70, R167; log 31). -/
def State.takeRecord (h : Head) (sheet : Word) (q : StationRequest) (role : Role) (loop : Option LoopId)
    (loopGen : BitVec 32) (c : SetId) (s : State) : State :=
  let s := ((s.updRecord h (takenRecord s.now sheet q role loop loopGen c)).purgeTrails).updInbox h fun _ => {}
  let s := if (s.headState h).known then s.enterSettling h else s
  if (s.link h).judge = .down then s.linkLoss h else s

/-! ## Messages (R6 to R10, R17) -/

/-- An identity report at the record (R6, R7). -/
def State.identityAtRecord (h : Head) (m : IdentityMsg) (s : State) : State :=
  let r := s.record h
  match r.state with
  | .identifying =>
      if m.serial = (s.calSet r.calSet).contents.serial then s.enterSettling h
      else s.endOccupation h .headMismatch
  | .settling | .acquiring => if m.change then s.endOccupation h .headMismatch else s
  | .idle | .writing => s

/-- The accumulation after an interruption (R10). -/
def keptAcc (r : OccRecord) : Accumulation := if r.options.restart then {} else r.acc

/-- An interruption of record h (R9, R10). -/
def State.interrupt (h : Head) (s : State) : State :=
  let s := s.updRecord h fun r => { r with intr := r.intr + 1 }
  if (s.record h).maxIntr < (s.record h).intr then s.endOccupation h .interrupted
  else
    (s.updRecord h fun r =>
      { r with settleTimer := some (s.now + r.settleLimit * 1000), acc := keptAcc r }).enterSettling h

/-- A link transition at the record (R17). -/
def State.linkAtRecord (h : Head) (j : LinkJudge) (s : State) : State :=
  if (s.record h).state.live then
    match j with
    | .down => s.linkLoss h
    | .up => s.updRecord h fun r => { r with graceTimer := none }
  else s

/-! ## Deliveries (R11 to R13, R23) -/

/-- A delivery that the record takes is trailed (R23). -/
def willTrail (r : OccRecord) : Bool := !r.trailFault && decide (r.trailNext < r.trailCap)

/-- The record holds back a delivery that would be trailed (R23). -/
def State.trailWaits (h : Head) (s : State) : Bool :=
  willTrail (s.record h) && decide (Config.trailQueueSize ≤ s.queuedTrails)

/-- A trail record is placed, or the overflow is noted (R23, log 18). -/
def State.placeTrail (h : Head) (t : TrailRecord) (s : State) : State :=
  let r := s.record h
  if r.trailFault then s
  else if r.trailNext < r.trailCap then
    (s.updRecord h fun r => { r with trailNext := r.trailNext + 1 }).enqueue
      (.trail h r.takeNo (r.trailBase + Config.trailRecordBytes * r.trailNext) t)
  else s.updRecord h fun r => { r with trailOverflow := true }

/-- A disposition counted under its own name (R11). -/
def countDisposition (d : Disposition) (r : OccRecord) : OccRecord :=
  match d with
  | .rejHead => { r with rejHead := r.rejHead + 1 }
  | .rejGate => { r with rejGate := r.rejGate + 1 }
  | .rejTilt => { r with rejTilt := r.rejTilt + 1 }
  | .rejTide => { r with rejTide := r.rejTide + 1 }
  | .settling => { r with settling := r.settling + 1 }
  | .waitId => r
  | .accepted => r

/-- A credit into the accumulation (R12, R83). -/
def creditAcc (t : Nat) (c : Candidate) (a : Accumulation) : Accumulation where
  sum := a.sum + c.corrected
  accepted := a.accepted + 1
  min := if a.accepted = 0 then c.corrected else Min.min a.min c.corrected
  max := if a.accepted = 0 then c.corrected else Max.max a.max c.corrected
  firstTime := if a.accepted = 0 then t else a.firstTime
  lastTime := t
  tiltSum := a.tiltSum + c.tiltTerm
  tempSum := a.tempSum + c.tempTerm
  tideSum := a.tideSum + c.tideTerm
  extrap := if c.extrap then a.extrap + 1 else a.extrap

/-- The record takes a disposition (R11, R23). -/
def State.takeDisposition (h : Head) (smp : Sample) (t : Nat) (d : Disposition) (s : State) : State :=
  (s.updRecord h (countDisposition d)).placeTrail h ⟨t, smp, d, 0⟩

/-- The record takes a credit (R12, R23). -/
def State.takeCredit (h : Head) (smp : Sample) (t : Nat) (c : Candidate) (s : State) : State :=
  let s := (s.updRecord h fun r => { r with acc := creditAcc t c r.acc }).placeTrail h
    ⟨t, smp, .accepted, c.corrected⟩
  if (s.record h).acc.accepted = (s.record h).target then s.endOccupation h .complete else s

/-! ## The occupation write queue (R22 to R28, R196) -/

/-- A value of the accumulation as the result write gives it: 0 with no accepted sample (R25). -/
def ifAccepted (a : Accumulation) (x : Int) : Int := if a.accepted = 0 then 0 else x

/-- The words 38h to A3h of the result write (R25, R196, 12 "station sheet"). -/
def resultWords (r : OccRecord) : List Word :=
  [BitVec.ofNat 32 r.acc.accepted, r.rejHead, r.rejGate, r.rejTilt, r.rejTide, r.settling, r.acc.extrap,
    packHalves (BitVec.ofNat 16 r.trailCount) (0#8 ++ BitVec.ofNat 8 r.intr)]
    ++ u64Words (ifAccepted r.acc r.acc.firstTime).toNat ++ u64Words (ifAccepted r.acc r.acc.lastTime).toNat
    ++ u64Words (midTimeOf r.acc)
    ++ i64Words (meanOf r.acc.sum r.acc.accepted) ++ i64Words (ifAccepted r.acc r.acc.min)
    ++ i64Words (ifAccepted r.acc r.acc.max)
    ++ i64Words (meanOf r.acc.tiltSum r.acc.accepted) ++ i64Words (meanOf r.acc.tempSum r.acc.accepted)
    ++ i64Words (meanOf r.acc.tideSum r.acc.accepted)
    ++ [flagsWord r.trailOverflow r.trailFault false]

/-- The outcome code of a record, for the answer word. -/
def outcomeWord (r : OccRecord) : Word :=
  match r.outcome with
  | none => 0
  | some o => o.code

/-- The drift write of a record (R28). -/
def driftWriteWords (r : OccRecord) : List Word := driftWords r.trailOverflow r.trailFault r.answer.fields

/-- The state word that the answer names (R28). -/
def finalStateWord (r : OccRecord) : Word := if r.answer.provisional then stateProvisional else stateFinal

/-- The accesses of a record's steps, built from the record as it stands when they are issued (R22, R196). -/
def resultAnswerAccess (r : OccRecord) : Access := writeAccess (r.sheet.toNat + 0x10) [outcomeWord r]
def resultBodyAccess (r : OccRecord) : Access := writeAccess (r.sheet.toNat + 0x38) (resultWords r)
def driftWriteAccess (r : OccRecord) : Access := writeAccess (r.sheet.toNat + 0xA0) (driftWriteWords r)
def stateWordAccess (r : OccRecord) : Access := writeAccess r.sheet.toNat [finalStateWord r]

/-- An entry of the queue as it is issued, with its access. -/
def State.issueOf (s : State) : QueueEntry → Issued × Access
  | .trail h n a t => (.trail h n, writeAccess a (trailWords t))
  | .result h => (.resultAnswer h, resultAnswerAccess (s.record h))
  | .drift h => (.drift h, driftWriteAccess (s.record h))
  | .stateWord h => (.stateWord h, stateWordAccess (s.record h))

def State.setIssued (i : Option Issued) (s : State) : State := { s with occ := { s.occ with issued := i } }

/-- The oldest entry of the queue is issued (R22, log 17). -/
def State.presentOccupation (s : State) : State :=
  match s.occ.queue with
  | [] => s
  | e :: rest =>
      ({ s with occ := { s.occ with queue := rest, issued := some (s.issueOf e).1 } }).present
        .occupationController (s.issueOf e).2

/-- What the Drift Unit is told of a sheet that was answered PROVISIONAL (R28, R38). -/
def State.reportIfProvisional (h : Head) (p : Report) (s : State) : State :=
  if (s.record h).answer.provisional then s.setReport h (some p) else s

/-- The landing report of record h. -/
def landingOf (r : OccRecord) : Report := .landing ⟨r.sheet, r.trailOverflow, r.trailFault⟩

/-- A write of the Occupation Controller is answered OKAY (R23, R27, R28, R196). -/
def State.occOkay (s : State) : State :=
  match s.occ.issued with
  | none => s
  | some (.trail h n) =>
      if (s.record h).takeNo = n then
        (s.setIssued none).updRecord h fun r => { r with trailCount := r.trailCount + 1 }
      else s.setIssued none
  | some (.resultAnswer h) =>
      (s.setIssued (some (.resultBody h))).present .occupationController (resultBodyAccess (s.record h))
  | some (.resultBody h) => (s.setIssued none).updRecord h fun r => { r with step := some .join }
  | some (.drift h) =>
      ((s.setIssued none).updRecord h fun r => { r with step := some .state }).enqueue (.stateWord h)
  | some (.stateWord h) =>
      (((s.setIssued none).reportIfProvisional h (landingOf (s.record h))).raise .sheet).recordIdle h

/-- A write of the Occupation Controller ends in a fault (R24, R26, R28). -/
def State.occFault (s : State) : State :=
  match s.occ.issued with
  | none => s
  | some (.trail h n) =>
      if (s.record h).takeNo = n then
        ((s.setIssued none).updRecord h fun r => { r with trailFault := true }).purgeTrails
      else s.setIssued none
  | some (.resultAnswer h) | some (.resultBody h) =>
      (s.setIssued none).updRecord h fun r => { r with step := some .join, joinFailed := true }
  | some (.drift h) | some (.stateWord h) =>
      ((s.setIssued none).reportIfProvisional h .failure).recordIdle h

/-! ## The meanings -/

/-- IDENTITY_REPORT (R6, R7). -/
def execIdentityReport (h : Head) (s : State) : Host.Outcome State Fault Refusal :=
  match (s.inbox h).identityMsgs with
  | [] => .next s
  | m :: rest => .next ((s.updInbox h fun b => { b with identityMsgs := rest }).identityAtRecord h m)

/-- JUDGE_TRANSITION_SETTLED (R8). -/
def execJudgeTransitionSettled (h : Head) (s : State) : Host.Outcome State Fault Refusal :=
  match (s.inbox h).judgeMsgs with
  | .settled :: rest =>
      let t := s.updInbox h fun b => { b with judgeMsgs := rest }
      .next (if (s.record h).state = .settling then t.enterAcquiring h else t)
  | .unsettled :: _ => .next s
  | [] => .next s

/-- INTERRUPTION (R9, R10). -/
def execInterruption (h : Head) (s : State) : Host.Outcome State Fault Refusal :=
  match (s.inbox h).judgeMsgs with
  | .unsettled :: rest =>
      let t := s.updInbox h fun b => { b with judgeMsgs := rest }
      .next (if (s.record h).state = .acquiring then t.interrupt h else t)
  | .settled :: _ => .next s
  | [] => .next s

/-- DISPOSITION (R11, R13, R23): counted, dropped, or held back while the write queue is full. -/
def execDisposition (s : State) : Host.Outcome State Fault Refusal :=
  match s.corr.evaluator with
  | none => .next s
  | some e =>
      match e.phase, e.context with
      | .delivering smp t d, some c =>
          let r := s.record e.head
          if r.state.live ∧ r.takeNo = c.takeNo then
            if s.trailWaits e.head then .next s
            else .next ((s.takeDisposition e.head smp t d).sampleDone e)
          else .next (s.sampleDone e)
      | _, _ => .next s

/-- CREDIT (R12, R13, R23). -/
def execCredit (s : State) : Host.Outcome State Fault Refusal :=
  match s.corr.evaluator with
  | none => .next s
  | some e =>
      match e.phase, e.context with
      | .crediting smp t k, some c =>
          let r := s.record e.head
          if r.state = .acquiring ∧ r.takeNo = c.takeNo then
            if s.trailWaits e.head then .next s
            else .next ((s.takeCredit e.head smp t k).sampleDone e)
          else .next (s.sampleDone e)
      | _, _ => .next s

/-- SETTLE_EXPIRY (R14). -/
def execSettleExpiry (h : Head) (s : State) : Host.Outcome State Fault Refusal :=
  let r := s.record h
  if s.due r.settleTimer = true ∧ (r.state = .identifying ∨ r.state = .settling) then
    .next (s.endOccupation h .unsettled)
  else .next s

/-- ACQUIRE_EXPIRY (R15). -/
def execAcquireExpiry (h : Head) (s : State) : Host.Outcome State Fault Refusal :=
  let r := s.record h
  if s.due r.acquireTimer = true ∧ (r.state = .settling ∨ r.state = .acquiring) then
    .next (s.endOccupation h (if r.minGood ≤ r.acc.accepted then .timed else .sparse))
  else .next s

/-- GRACE_EXPIRY (R17). -/
def execGraceExpiry (h : Head) (s : State) : Host.Outcome State Fault Refusal :=
  let r := s.record h
  if s.due r.graceTimer = true ∧ r.state.live = true then .next (s.endOccupation h .linkLost) else .next s

/-- LINK_TRANSITION_AT_RECORD (R17, R18). -/
def execLinkTransitionAtRecord (h : Head) (s : State) : Host.Outcome State Fault Refusal :=
  match (s.inbox h).linkMsgs with
  | [] => .next s
  | j :: rest => .next ((s.updInbox h fun b => { b with linkMsgs := rest }).linkAtRecord h j)

end Sys2Proof.Machine
end

