-- ==== Sys2Proof/Machine/Tide.lean ====
section
/-! DEFINITION. The Tide Unit (06): lookups, the segment cache, the validation scan, and the adoption of the directory's
table. SWAP_TIDE stands with the orders. -/

namespace Sys2Proof.Machine

/-! ## The current table (R101, R112, R114) -/

/-- A change of the current table raises table_no and empties the cache (R101, R102). -/
def State.changeTable (t : Option TideTable) (s : State) : State :=
  { s with tide := { s.tide with current := t, tableNo := s.tide.tableNo + 1, cache := [] } }

/-- The scan is over: no pending table and no scan owner. -/
def State.endScan (s : State) : State := { s with tide := { s.tide with pendingTable := none, scanOwner := none } }

/-- The table that a successful scan has found (R110). -/
def scannedTable (p : PendingTable) : TideTable := ⟨p.address, p.count, p.firstStart, p.expectedStart⟩

/-- The commit of a successful scan (R112, R114). -/
def State.commitTable (p : PendingTable) (o : ScanOwner) (s : State) : State :=
  let s := (s.changeTable (some (scannedTable p))).endScan
  match o with
  | .order => s.orderDone
  | .starting => s.enterRunning

/-- A scan that has succeeded is committed when no lookup is in flight (R112). -/
def State.commitIfReady (s : State) : State :=
  match s.tide.lookup, s.tide.pendingTable, s.tide.scanOwner with
  | none, some p, some o => if p.nextIndex = p.count then s.commitTable p o else s
  | _, _, _ => s

/-- A validation scan begins (R109). The expected start and the first start, which the first segment read gives, are 0
until then (DESIGN CHOICE, log 36). -/
def State.beginScan (address count : Nat) (o : ScanOwner) (s : State) : State :=
  { s with tide := { s.tide with pendingTable := some ⟨address, count, 0, 0, 0⟩, scanOwner := some o } }

/-- A scan fails (R110, R111, R114). -/
def State.failScan (r : Reason) (s : State) : State :=
  match s.tide.scanOwner with
  | none => s
  | some .order => s.endScan.orderRefused r
  | some .starting => (s.endScan.changeTable none).enterFaulted .tideTable

/-- The directory's table is adopted at STARTING (R114). -/
def State.adoptTable (address count : Nat) (s : State) : State :=
  if count = 0 then (s.changeTable none).enterRunning else s.beginScan address count .starting

/-! ## The segment cache (R102, R105) -/

/-- An entry moves to the most recently used end (R102, R103). -/
def touchCache (x : CacheEntry) (c : List CacheEntry) : List CacheEntry :=
  c.filter (fun y => y.index ≠ x.index) ++ [x]

/-- A segment is inserted at the most recently used end: it replaces an entry of its index, or fills an empty
entry, or replaces the least recently used entry (R105). -/
def insertCache (x : CacheEntry) (c : List CacheEntry) : List CacheEntry :=
  let d := c.filter fun y => y.index ≠ x.index
  (if d.length < Config.cacheSize then d else d.tail) ++ [x]

/-! ## Lookups (R103 to R106) -/

/-- A tide request is answered at the evaluator: a term, or a gap or fault as `none` (R66, R81, R82). -/
def State.answerTide (v : Option Int) (s : State) : State :=
  match s.corr.evaluator with
  | none => s
  | some e =>
      match e.phase with
      | .awaitingTide x t c =>
          match v with
          | some term => s.setEvaluator (some { e with phase := .crediting x t (c.finish term) })
          | none => (s.setEvaluator (some { e with phase := .delivering x t .rejTide })).raise .tide
      | .between | .judged _ _ _ _ | .delivering _ _ _ | .crediting _ _ _ => s

/-- A lookup ends; a commit that waited for it follows (R112). -/
def State.endLookup (v : Option Int) (s : State) : State := ((s.answerTide v).setLookup none).commitIfReady

/-- A search over a range is READING when one segment is left, PROBING before (R103, R104). -/
def searching (k : Lookup) (lo hi : Nat) : Lookup :=
  { k with lo := lo, hi := hi, phase := if lo = hi then .reading else .probing }

/-- The Tide Unit takes a request for time `t` (R103). Where two cached segments of different index hold it, the least
recently used of them is hit (DESIGN CHOICE, log 33). -/
def State.beginLookup (t : Nat) (s : State) : State :=
  match s.tide.current with
  | none => s.endLookup none
  | some tab =>
      match s.tide.cache.find? fun x => x.segment.holds t with
      | some x => (s.setCache (touchCache x s.tide.cache)).endLookup (some (tideTermOf x.segment t))
      | none =>
          if t < tab.firstStart ∨ tab.endTime ≤ t then s.endLookup none
          else s.setLookup (some (searching ⟨t, tab, s.tide.tableNo, 0, 0, .probing⟩ 0 (tab.count - 1)))

/-- The segment that the next probe reads (R104). -/
def probeIndex (k : Lookup) : Nat := (k.lo + k.hi + 1) / 2

/-- A probe is answered OKAY (R104). -/
def State.probeAnswered (k : Lookup) (g : Segment) (s : State) : State :=
  let mid := probeIndex k
  if k.time < g.start then
    if mid - 1 < k.lo then s.endLookup none else s.setLookup (some (searching k k.lo (mid - 1)))
  else if g.start + g.span ≤ k.time then
    if k.hi < mid + 1 then s.endLookup none else s.setLookup (some (searching k (mid + 1) k.hi))
  else s.setLookup (some (searching k mid mid))

/-- A segment read is answered OKAY (R105). -/
def State.segmentAnswered (k : Lookup) (g : Segment) (s : State) : State :=
  if g.holds k.time then
    (if s.tide.tableNo = k.tableNo then s.setCache (insertCache ⟨k.lo, g⟩ s.tide.cache) else s).endLookup
      (some (tideTermOf g k.time))
  else s.endLookup none

/-! ## The scan (R110) -/

/-- The first check of a scanned segment that fails (R110). -/
def segmentFault (p : PendingTable) (g : Segment) : Option Reason :=
  if p.nextIndex ≠ 0 ∧ g.start ≠ p.expectedStart then some .tableOrder
  else if g.span < 60000 ∨ 86400000 < g.span then some .tableSpan
  else if 2 ^ 64 - 1 < g.start + g.span then some .range
  else none

/-- The pending table after a segment that passes (R110). -/
def segmentPassed (p : PendingTable) (g : Segment) : PendingTable :=
  { p with nextIndex := p.nextIndex + 1, expectedStart := g.start + g.span,
           firstStart := if p.nextIndex = 0 then g.start else p.firstStart }

/-- A scanned segment is answered OKAY (R110, R112). -/
def State.scanAnswered (g : Segment) (s : State) : State :=
  match s.tide.pendingTable with
  | none => s
  | some p =>
      match segmentFault p g with
      | some r => s.failScan r
      | none => { s with tide := { s.tide with pendingTable := some (segmentPassed p g) } }.commitIfReady

/-! ## The Tide Unit as requester (R107) -/

/-- The read that a lookup waits for. -/
def lookupAccess (k : Lookup) : Access :=
  match k.phase with
  | .probing => readAccess .table (k.table.address + Config.segmentBytes * probeIndex k) 3
  | .reading => readAccess .table (k.table.address + Config.segmentBytes * k.lo) 12

/-- The read that comes next: the lookup's before the scan's (R107). -/
def State.tideAccess (s : State) : Option (TideUse × Access) :=
  match s.tide.lookup with
  | some k => some (.lookup, lookupAccess k)
  | none =>
      match s.tide.pendingTable with
      | none => none
      | some p =>
          if p.nextIndex < p.count then
            some (.scan, readAccess .table (p.address + Config.segmentBytes * p.nextIndex) 12)
          else none

/-- The Tide Unit presents its next access. -/
def State.presentTide (s : State) : State :=
  match s.tideAccess with
  | none => s
  | some (u, a) => { s with tide := { s.tide with slot := some u } }.present .tideUnit a

/-- The Tide Unit's slot is idle again. -/
def State.freeTideSlot (s : State) : State := { s with tide := { s.tide with slot := none } }

/-- A read of the Tide Unit is answered OKAY (R104, R105, R110). -/
def State.tideOkay (ws : List Word) (s : State) : State :=
  match s.tide.slot with
  | none => s
  | some .scan => s.freeTideSlot.scanAnswered (parseSegment ws)
  | some .lookup =>
      match s.tide.lookup with
      | none => s.freeTideSlot
      | some k =>
          match k.phase with
          | .probing => s.freeTideSlot.probeAnswered k (parseSegment ws)
          | .reading => s.freeTideSlot.segmentAnswered k (parseSegment ws)

/-- A read of the Tide Unit ends in a fault (R106, R111, R114). -/
def State.tideFault (k : FaultKind) (s : State) : State :=
  match s.tide.slot with
  | none => s
  | some .lookup => s.freeTideSlot.endLookup none
  | some .scan => s.freeTideSlot.failScan (reasonOfFault k)

/-! ## The meaning -/

/-- TIDE_LOOKUP (R103). -/
def execTideLookup (s : State) : Host.Outcome State Fault Refusal :=
  match s.corr.evaluator, s.tide.lookup with
  | some e, none =>
      match e.phase with
      | .awaitingTide _ t _ => .next (s.beginLookup t)
      | .between | .judged _ _ _ _ | .delivering _ _ _ | .crediting _ _ _ => .next s
  | _, _ => .next s

end Sys2Proof.Machine
end

