-- ==== Sys2Proof/Machine/Orders.lean ====
section
/-! DEFINITION. The Order Executor (09) and the eight orders at their owners (R165 to R172, with R19, R20, R51, R52, R69,
R70, R92 to R96, R108, R109, R134 and R135). -/

namespace Sys2Proof.Machine

/-! ## The checks common to all orders (R161) -/

/-- A field lies in a range. -/
def inRange (lo hi x : Nat) : Bool := decide (lo ≤ x ∧ x ≤ hi)

/-- An address argument: below 2^32 and a multiple of 8. -/
def addressArg (x : Dword) : Bool := decide (x.toNat < 2 ^ 32 ∧ x.toNat % 8 = 0)

/-- Byte and half-word fields of a packed argument (12 "Order sheet"). -/
def argByte (x : Dword) (k : Nat) : Nat := (x.extractLsb' (8 * k) 8).toNat
def argHalf (x : Dword) (k : Nat) : BitVec 16 := x.extractLsb' (16 * k) 16

/-- The fields of SET_HEAD. -/
structure HeadSettings where
  rateCode : Nat
  linkIn : Nat
  linkOut : Nat
  silence : Nat
  tolIn : Nat
  tolOut : Nat
  tempStep : Nat
  runIn : Nat
  runOut : Nat
  on : Nat
  off : Nat
  levelX : Int
  levelY : Int
  deriving DecidableEq, Repr

/-- The packed fields of arguments 1 to 3 (12 "Order sheet"). -/
def parseSettings (a1 a2 a3 : Dword) : HeadSettings where
  rateCode := argByte a1 0
  linkIn := argByte a1 1
  linkOut := argByte a1 2
  silence := (argHalf a1 2).toNat
  tolIn := (argHalf a2 0).toNat
  tolOut := (argHalf a2 1).toNat
  tempStep := (argHalf a2 2).toNat
  runIn := (argHalf a2 3).toNat
  runOut := argByte a3 0
  on := argByte a3 1
  off := argByte a3 2
  levelX := (argHalf a3 2).toInt
  levelY := (argHalf a3 3).toInt

/-- The ranges of the SET_HEAD fields (R161); TEMP_STEP and the level take every value of their width. -/
def settingsAllowed (x : HeadSettings) : Bool :=
  inRange 0 3 x.rateCode && inRange 1 15 x.linkIn && inRange 1 15 x.linkOut && inRange 100 10000 x.silence &&
    inRange 1 2000 x.tolIn && inRange x.tolIn 2000 x.tolOut && inRange 1 1023 x.runIn &&
    inRange 1 255 x.runOut && inRange 0 15 x.on && inRange 0 15 x.off && !decide (x.on = 0 ∧ 0 < x.off)

/-- The arguments of a known order lie in their ranges (R161). -/
def argumentsAllowed (code : Nat) (a0 a1 a2 a3 : Dword) : Bool :=
  match code with
  | 1 => decide (a0.toNat < 2 ^ 63)
  | 2 => inRange 0 3 a0.toNat && settingsAllowed (parseSettings a1 a2 a3)
  | 3 => inRange 0 7 a0.toNat && addressArg a1
  | 4 => inRange 0 7 a0.toNat
  | 5 => inRange 0 4096 a1.toNat && (decide (a1.toNat = 0) || addressArg a0)
  | 6 => addressArg a0
  | 7 => inRange 0 3 a0.toNat
  | 8 => inRange 0 3 a0.toNat
  | _ => false

/-- The reason of the executor's own refusal (R161). -/
def orderFaultOf (o : OrderExecutor) : Option Reason :=
  if ¬ (1 ≤ o.code.toNat ∧ o.code.toNat ≤ 8) then some .unknownOrder
  else if argumentsAllowed o.code.toNat o.arg0 o.arg1 o.arg2 o.arg3 = false then some .range
  else none

/-- The order part that was read (12 "Order sheet"). -/
def loadOrder (ws : List Word) (o : OrderExecutor) : OrderExecutor :=
  { o with code := wordAt ws 0, arg0 := dwordAt ws 1, arg1 := dwordAt ws 3, arg2 := dwordAt ws 5,
           arg3 := dwordAt ws 7 }

def State.setOrder (o : OrderExecutor) (s : State) : State := { s with order := o }

/-- The order part is answered: the checks, then the order is presented to its owner (R160, R161). -/
def State.orderRead (ws : List Word) (s : State) : State :=
  let o := loadOrder ws s.order
  match orderFaultOf o with
  | some r => (s.setOrder o).orderRefused r
  | none => s.setOrder { o with stage := .acting .presented }

/-! ## The loading of a calibration record (R92 to R95) -/

/-- The contents of a record that fails no check, or the reason (R94). -/
def calFault (fixed rest : List Word) : Option Reason :=
  let k := parseCal fixed rest
  if wordSum (fixed ++ rest) ≠ 0 then some .calCheck
  else if ¬ (k.latency ≤ 10000 ∧ 1 ≤ k.tiltMax ∧ k.tiltMax ≤ 32767) then some .range
  else if ¬ (k.cntMin ≤ k.cntMax ∧ k.tMin ≤ k.tMax ∧ (k.points.map Prod.fst).Pairwise (· < ·)) then
    some .calOrder
  else none

def State.setLoad (l : Option CalLoad) (s : State) : State := { s with cal := { s.cal with load := l } }

/-- A load fails: the set is EMPTY and the order is refused (R93, R94). -/
def State.failLoad (c : SetId) (r : Reason) (s : State) : State :=
  ((s.updCalSet c fun x => { x with state := .empty, contents := {} }).setLoad none).orderRefused r

/-- A load succeeds: the set is VALID and the order is done (R95). -/
def State.finishLoad (c : SetId) (k : CalContents) (s : State) : State :=
  ((s.updCalSet c fun x => { x with state := .valid, contents := k }).setLoad none).orderDone

/-- A LOADING set once the fixed part of its record has been read: its points are still to come (R88, log 35). -/
def filledSet (fixed : List Word) (x : CalSet) : CalSet :=
  { x with state := .loading, contents := { parseCal fixed [] with points := [] } }

/-- A read of the load is answered OKAY (R93, R94). -/
def State.loadAnswered (ws : List Word) (s : State) : State :=
  match s.cal.load with
  | none => s
  | some l =>
      if l.fixed = [] then
        if calPointCount ws < 2 ∨ 16 < calPointCount ws then s.failLoad l.set .range
        else (s.updCalSet l.set (filledSet ws)).setLoad (some { l with fixed := ws })
      else
        match calFault l.fixed ws with
        | some r => s.failLoad l.set r
        | none => s.finishLoad l.set (parseCal l.fixed ws)

/-- The read that a load waits for (R93). -/
def loadAccess (l : CalLoad) : Access :=
  if l.fixed = [] then readAccess .table l.address calFixedWords
  else readAccess .table (l.address + 4 * calFixedWords) (4 * calPointCount l.fixed + 2)

/-! ## The executor as requester (R159, R160, R162, R163) -/

def OrderStatus.word : OrderStatus → Word
  | .done => stateDone
  | .refused => stateRefused

/-- The access that the executor presents next. -/
def State.orderAccess (s : State) : Option Access :=
  match s.order.sheet with
  | none => none
  | some a =>
      match s.order.stage with
      | .reading => some (readAccess .sheet (a.toNat + 0x14) 9)
      | .acting .loading => s.cal.load.map loadAccess
      | .answerWord => some (writeAccess (a.toNat + 0x10) [s.order.reason.code])
      | .answerState => s.order.status.map fun x => writeAccess a.toNat [x.word]
      | .none | .acting .presented | .acting .withdrawal | .acting .scanning | .acting (.resetting _ _ _) => none

/-- An access of the executor is answered OKAY (R160, R162, R93). -/
def State.orderOkay (ws : List Word) (s : State) : State :=
  match s.order.stage with
  | .reading => s.orderRead ws
  | .acting .loading => s.loadAnswered ws
  | .answerWord => s.setOrder { s.order with stage := .answerState }
  | .answerState => (s.raise .order).endOrder
  | .none | .acting .presented | .acting .withdrawal | .acting .scanning | .acting (.resetting _ _ _) => s

/-- An access of the executor ends in a fault (R160, R163, R93). -/
def State.orderFault (k : FaultKind) (s : State) : State :=
  match s.order.stage with
  | .reading => s.orderRefused (reasonOfFault k)
  | .acting .loading =>
      match s.cal.load with
      | none => s
      | some l => s.failLoad l.set (reasonOfFault k)
  | .answerWord | .answerState => s.endOrder
  | .none | .acting .presented | .acting .withdrawal | .acting .scanning | .acting (.resetting _ _ _) => s

/-- The executor waits in ACTING. -/
def State.orderWaits (a : Acting) (s : State) : State := s.setOrder { s.order with stage := .acting a }

/-! ## SET_HEAD (R70, R135, R166) -/

/-- The judge settings that SET_HEAD loads (R70). -/
def loadJudgeSettings (x : HeadSettings) (y : HeadState) : HeadState :=
  { y with tolIn := x.tolIn, tolOut := x.tolOut, tempStep := x.tempStep, runIn := x.runIn, runOut := x.runOut,
           on := x.on, off := x.off, levelX := x.levelX, levelY := x.levelY, phase := 0 }

/-- The link settings that SET_HEAD loads (R135). -/
def loadLinkSettings (x : HeadSettings) (l : LinkReceiver) : LinkReceiver :=
  { l with rate := rateOf x.rateCode, linkIn := x.linkIn, linkOut := x.linkOut, silence := x.silence }

/-- The Link Receiver's part of a SET_HEAD (R135). -/
def State.setLinkSettings (h : Head) (x : HeadSettings) (s : State) : State :=
  if (s.link h).rate = rateOf x.rateCode then s.updLink h (loadLinkSettings x)
  else
    let t := if (s.link h).judge = .up then s.linkDown h true else s
    t.updLink h fun l => loadLinkSettings x (restartedLink l)

/-- SET_HEAD with record h IDLE (R166, R70, R135). What it presents to the record has no effect there: taken while the
record is IDLE it does nothing, and a take first empties the inbox (R70, R167; log 31). -/
def State.setHead (h : Head) (x : HeadSettings) (s : State) : State :=
  ((((s.judgeClear h).updHead h (loadJudgeSettings x)).abandonFrame h).setLinkSettings h x).orderDone

/-! ## CANCEL (R19, R52, R170) -/

def headIds : List Head := [0, 1, 2, 3]

/-- The record that is not IDLE and holds a sheet address (R19). -/
def State.holderOf (address : Nat) (s : State) : Option Head :=
  headIds.find? fun h => decide ((s.record h).state ≠ .idle ∧ (s.record h).sheet.toNat = address)

/-- A pool entry holds a sheet address; RESERVED entries hold none (R52). -/
def holdsSheet (address : Nat) (e : PoolEntry) : Bool :=
  match e.landing with
  | none => false
  | some l => decide (l.sheet.toNat = address)

/-- The loop whose pending list holds a HELD entry of the address (R52). -/
def State.loopHolding (address : Nat) (s : State) : Option LoopId :=
  loopIds.find? fun l =>
    (s.loopAt l).pending.any fun e => holdsSheet address e && decide (e.phase = .held)

/-- Some batch holds an entry of the address (R52). -/
def State.batchHolding (address : Nat) (s : State) : Bool :=
  s.drift.batches.any fun b => b.entries.any (holdsSheet address)

/-- A HELD entry leaves its loop's list and forms a WITHDRAWN batch (R52). -/
def State.withdraw (l : LoopId) (address : Nat) (s : State) : State :=
  (s.updLoop l fun x => { x with pending := x.pending.filter fun e => !holdsSheet address e }).addBatch .withdrawn
    ((s.loopAt l).pending.filter (holdsSheet address))

/-! ## HEAD_RESET (R172, R134, R69, R20) -/

/-- A part of the head reset has been taken; with the last of them the order is done (R172). -/
def State.resetPart (link judge record : Bool) (s : State) : State :=
  if link && judge && record then s.orderDone else s.orderWaits (.resetting link judge record)

/-- The identity and the cadence phase after a head reset (R69). -/
def forgottenHead (x : HeadState) : HeadState := { x with known := false, serial := 0, kind := 0, rate := 0, phase := 0 }

/-! ## The meanings -/

/-- SET_CLOCK (R165, R190). -/
def execSetClock (s : State) : Host.Outcome State Fault Refusal :=
  if s.orderPresented 1 then
    if s.allRecordsIdle && s.allLoopsFree then
      .next ({ s with ctrl := { s.ctrl with
        offset := s.order.arg0 - s.ctrl.elapsed, clockSet := true } }.orderDone)
    else .next (s.orderRefused .clockInUse)
  else .next s

/-- SET_HEAD (R166, R167); held while a sample is under evaluation (R58). -/
def execSetHead (s : State) : Host.Outcome State Fault Refusal :=
  if s.orderPresented 2 && s.betweenSamples then
    let h := headOfArg s.order.arg0
    if (s.record h).state = .idle then
      .next (s.setHead h (parseSettings s.order.arg1 s.order.arg2 s.order.arg3))
    else .next (s.orderRefused .headBusy)
  else .next s

/-- LOAD_CAL (R92, R168). -/
def execLoadCal (s : State) : Host.Outcome State Fault Refusal :=
  if s.orderPresented 3 then
    let c := setOfArg s.order.arg0
    if (s.calSet c).use = 0 then
      .next (((s.updCalSet c fun x => { x with state := .loading, contents := {} }).setLoad
        (some ⟨c, s.order.arg1.toNat, []⟩)).orderWaits .loading)
    else .next (s.orderRefused .setBusy)
  else .next s

/-- CLEAR_CAL (R96, R168). -/
def execClearCal (s : State) : Host.Outcome State Fault Refusal :=
  if s.orderPresented 4 then
    let c := setOfArg s.order.arg0
    if (s.calSet c).use = 0 then
      .next ((s.updCalSet c fun x => { x with state := .empty, contents := {} }).orderDone)
    else .next (s.orderRefused .setBusy)
  else .next s

/-- SWAP_TIDE (R108, R109, R169). -/
def execSwapTide (s : State) : Host.Outcome State Fault Refusal :=
  if s.orderPresented 5 then
    if s.order.arg1.toNat = 0 then .next (s.changeTable none).orderDone
    else .next ((s.beginScan s.order.arg0.toNat s.order.arg1.toNat .order).orderWaits .scanning)
  else .next s

/-- CANCEL at the Occupation Controller (R19, R170). -/
def execCancel (s : State) : Host.Outcome State Fault Refusal :=
  if s.orderPresented 6 then
    match s.holderOf s.order.arg0.toNat with
    | none => .next (s.orderWaits .withdrawal)
    | some h =>
        if (s.record h).state.live then .next (s.endOccupation h .cancelled).orderDone
        else .next (s.orderRefused .alreadyEnded)
  else .next s

/-- CANCEL at the Drift Unit (R52, R170); reports of sheets that have landed are taken before (log 8). -/
def execCancelWithdrawal (s : State) : Host.Outcome State Fault Refusal :=
  if s.order.stage = .acting .withdrawal ∧ (∀ h : Head, s.reportAt h = none) then
    match s.loopHolding s.order.arg0.toNat with
    | some l => .next (s.withdraw l s.order.arg0.toNat).orderDone
    | none =>
        if s.batchHolding s.order.arg0.toNat then .next (s.orderRefused .alreadyEnded)
        else .next (s.orderRefused .notFound)
  else .next s

/-- ABORT_LOOP (R51, R171). -/
def execAbortLoop (s : State) : Host.Outcome State Fault Refusal :=
  if s.orderPresented 7 then
    let l : LoopId := headOfArg s.order.arg0
    if (s.loopAt l).state = .opened then
      .next (s.detachLoop l (.aborted (s.loopAt l).openValue (s.loopAt l).baseRef) freedLoop).orderDone
    else .next (s.orderRefused .loopState)
  else .next s

/-- HEAD_RESET: presented to its three owners (R172). -/
def execHeadReset (s : State) : Host.Outcome State Fault Refusal :=
  if s.orderPresented 8 then .next (s.orderWaits (.resetting false false false)) else .next s

/-- HEAD_RESET_LINK_PART (R134, R131). -/
def execHeadResetLinkPart (s : State) : Host.Outcome State Fault Refusal :=
  match s.order.stage with
  | .acting (.resetting false j r) =>
      let h := headOfArg s.order.arg0
      let t := if (s.link h).judge = .up then s.linkDown h false else s
      .next ((t.updLink h fun l => { restartedLink l with counters := {} }).resetPart true j r)
  | _ => .next s

/-- HEAD_RESET_JUDGE_PART (R69); held while a sample is under evaluation (R58). -/
def execHeadResetJudgePart (s : State) : Host.Outcome State Fault Refusal :=
  match s.order.stage with
  | .acting (.resetting l false r) =>
      if s.betweenSamples then
        let h := headOfArg s.order.arg0
        .next ((((s.judgeClear h).updHead h forgottenHead).abandonFrame h).resetPart l true r)
      else .next s
  | _ => .next s

/-- The interruption that the judge clear of a head reset has presented is still to be taken at an ACQUIRING record
(R172). -/
def State.interruptionWaits (h : Head) (s : State) : Bool :=
  decide ((s.record h).state = .acquiring) && (s.inbox h).judgeMsgs.contains .unsettled

/-- HEAD_RESET_RECORD_PART (R20); after the judge clear, a record in ACQUIRING is first interrupted (R172). -/
def execHeadResetRecordPart (s : State) : Host.Outcome State Fault Refusal :=
  match s.order.stage with
  | .acting (.resetting l j false) =>
      let h := headOfArg s.order.arg0
      if j && s.interruptionWaits h then .next s
      else .next ((if (s.record h).state.live then s.endOccupation h .headReset else s).resetPart l j true)
  | _ => .next s

end Sys2Proof.Machine
end

