-- ==== Sys2Proof/Machine/Status.lean ====
section
/-! DEFINITION. The status writer (11, 12 "status block"): the snapshot, the three accesses of a refresh, and the Control
Port's answers, those of the directory read among them. -/

namespace Sys2Proof.Machine

/-! ## The snapshot (R194, R198, R29, R53, R71, R98, R115, R137, R158, R183) -/

/-- A flag as a byte. -/
def flagByte (b : Bool) : Byte := if b then 1 else 0

/-- The accepted count of an occupation, 0 in IDLE (R29). -/
def shownAccepted (r : OccRecord) : Nat := if r.state = .idle then 0 else r.acc.accepted

/-- The twelve counters in the order of R133. -/
def counterWords (c : Counters) : List Word :=
  [c.good, c.headerErr, c.kindErr, c.channelErr, c.lengthErr, c.crcErr, c.aborted, c.gaps, c.overflows,
    c.unqueued, c.timingLosses, c.missedCells]

/-- The identity words of a head entry; an identity that is not known is 0 (R198). -/
def identityWords (x : HeadState) (fill : Nat) : List Word :=
  if x.known then [packBytes 1 x.kind x.rate (BitVec.ofNat 8 fill), x.serial]
  else [packBytes 0 0 0 (BitVec.ofNat 8 fill), 0]

/-- The head entry of the status block. -/
def headEntry (l : LinkReceiver) (x : HeadState) (r : OccRecord) : List Word :=
  [packBytes l.tracker.code l.assembler.code l.judge.code x.judge.code]
    ++ identityWords x l.queue.length
    ++ [packBytes r.state.code 0 0 0, r.sheet, BitVec.ofNat 32 (shownAccepted r)]
    ++ counterWords l.counters

/-- The lane entry: state and anchor, 0 for none. -/
def laneEntry (n : LaneRecord) : List Word := [packBytes n.state.code 0 0 0, n.anchor.getD 0]

/-- The loop entry. -/
def loopEntry (l : Loop) : List Word :=
  [packBytes l.state.code (BitVec.ofNat 8 l.pending.length) 0 0, l.generation] ++ u64Words l.openTime

/-- The tide table's address and count, and whether a scan is in progress (R115). A scan that has succeeded and waits for
its commit is shown as in progress until the commit (DESIGN CHOICE, log 34). -/
def tideEntry (t : TideUnit) : List Word :=
  let scan := flagByte t.pendingTable.isSome
  match t.current with
  | none => [0, packBytes 0 0 scan 0]
  | some tab => [BitVec.ofNat 32 tab.address, packHalves (BitVec.ofNat 16 tab.count) (0#8 ++ scan)]

/-- Two set entries: state and use count each. -/
def setPair (a b : CalSet) : Word :=
  packBytes a.state.code (BitVec.ofNat 8 a.use) b.state.code (BitVec.ofNat 8 b.use)

/-- The last-fault record; an empty one is 0 throughout (R198). -/
def faultEntry : Option FaultRecord → List Word
  | none => [0, 0]
  | some f =>
      [packBytes (BitVec.ofNat 8 f.requester.number.val) f.direction.code f.kind.code 0,
        BitVec.ofNat 32 f.address]

/-- The body of the status block: words 04h to 1BFh (R194). -/
def State.snapshot (s : State) : List Word :=
  [packBytes s.ctrl.engine.code (flagByte s.ctrl.clockSet) 0 0] ++ dwordWords s.survey
    ++ ([0, 1, 2, 3] : List Head).flatMap (fun h => headEntry (s.link h) (s.headState h) (s.record h))
    ++ ([0, 1, 2, 3, 4] : List Lane).flatMap (fun n => laneEntry (s.lane n))
    ++ loopIds.flatMap (fun l => loopEntry (s.loopAt l))
    ++ [BitVec.ofNat 32 s.poolFree] ++ tideEntry s.tide
    ++ [setPair (s.calSet 0) (s.calSet 1), setPair (s.calSet 2) (s.calSet 3),
        setPair (s.calSet 4) (s.calSet 5), setPair (s.calSet 6) (s.calSet 7)]
    ++ faultEntry s.port.lastFault ++ [0]

/-! ## Refreshes (R193, R194) -/

/-- The access of a refresh that comes next (R194). -/
def refreshAccess (address : Word) (g : BitVec 32) : Refresh → Access
  | .odd => writeAccess address.toNat [g + 1]
  | .body snapshot => writeAccess (address.toNat + 4) snapshot
  | .even => writeAccess address.toNat [g + 2]

/-- The Control Port presents the next access of its refresh. -/
def State.presentRefresh (s : State) : State :=
  match s.ctrl.statusAddress, s.ctrl.refresh with
  | some a, some r => s.present .controlPort (refreshAccess a s.ctrl.generation r)
  | _, _ => s

/-- A refresh ends, completed or abandoned by a fault: g rises by 2, and a pending request starts the next
(R193, R194). -/
def State.endRefresh (s : State) : State :=
  { s with ctrl := { s.ctrl with
      generation := s.ctrl.generation + 2, refreshPending := false,
      refresh := if s.ctrl.refreshPending then some .odd else none } }

def State.setRefresh (r : Refresh) (s : State) : State := { s with ctrl := { s.ctrl with refresh := some r } }

/-- A status write is answered OKAY (R194). -/
def State.refreshOkay (s : State) : State :=
  match s.ctrl.refresh with
  | none => s
  | some .odd => s.setRefresh (.body s.snapshot)
  | some (.body _) => s.setRefresh .even
  | some .even => s.endRefresh

/-- A status write ends in a fault (R194). -/
def State.refreshFault (s : State) : State :=
  match s.ctrl.refresh with
  | none => s
  | some _ => s.endRefresh

/-! ## The directory read (R187, R114) -/

/-- The directory has been read: its checks, and the load of its parts (R187). -/
def State.directoryAnswered (ws : List Word) (s : State) : State :=
  match directoryFault ws with
  | some r => s.enterFaulted r
  | none =>
      (s.loadDirectory (parseDirectory ws)).adoptTable (parseDirectory ws).tideAddress (parseDirectory ws).tideCount

/-- An access of the Control Port is answered OKAY. -/
def State.controlOkay (ws : List Word) (s : State) : State :=
  match s.ctrl.starting with
  | some .directory => s.directoryAnswered ws
  | some .scan => s.refreshOkay
  | none => s.refreshOkay

/-- An access of the Control Port ends in a fault (R187, R194). -/
def State.controlFault (s : State) : State :=
  match s.ctrl.starting with
  | some .directory => s.enterFaulted .readFault
  | some .scan => s.refreshFault
  | none => s.refreshFault

end Sys2Proof.Machine
end

