-- ==== Sys2Proof/Machine/Walker.lean ====
section
/-! DEFINITION. The Sheet Walker (08): the poll timer, looks, the validation of sheets, takes and refusals. -/

namespace Sys2Proof.Machine

/-! ## Looks (R141 to R143) -/

/-- The lanes in the order in which the walker searches them (R142). -/
def laneOrder (last : Lane) : List Lane := [last + 1, last + 2, last + 3, last + 4, last + 5]

/-- The lane of the next look. -/
def State.nextLane (s : State) : Option Lane :=
  (laneOrder s.walker.lastServed).find? fun n => (s.lane n).flag

/-- A look as it begins (R142, R143). -/
def newLook (n : Lane) (r : LaneRecord) : Look where
  lane := n
  before := r.state
  moved := 0
  candidate := 0
  next := 0
  stage := if r.anchor = none then .rootRead else .nextRead
  placed := false
  stopped := false
  claim := none
  claimSerial := 0
  request := none

/-- The flags of the lanes that are not HELD are set (R141). -/
def State.setUnheldFlags (s : State) : State :=
  { s with walker := { s.walker with
      lanes := s.walker.lanes.map fun n => if n.state = .held then n else { n with flag := true } } }

/-! ## The walker as requester (R143, R149, R151, R196) -/

/-- The address of a lane's root word in the directory (12 "directory"). -/
def rootAddress (directory : Word) (n : Lane) : Nat := directory.toNat + 0x14 + 4 * n.val

/-- The access that a look waits for; none where an event of another kind is next. -/
def State.lookAccess (s : State) (k : Look) : Option Access :=
  match k.stage with
  | .rootRead => some (readAccess .sheet (rootAddress s.walker.directory k.lane) 1)
  | .nextRead => (s.lane k.lane).anchor.map fun a => readAccess .sheet (a.toNat + 8) 1
  | .headerRead => some (readAccess .sheet k.candidate.toNat 4)
  | .requestRead => some (readAccess .sheet (k.candidate.toNat + 0x14) 9)
  | .takenWrite => some (writeAccess k.candidate.toNat [stateTaken])
  | .answerWrite r => some (writeAccess (k.candidate.toNat + 0x10) [r.code])
  | .refusedWrite => some (writeAccess k.candidate.toNat [stateRefused])
  | .misaligned _ | .calCheck | .take | .orderTake => none

/-- The walker presents its next access; a misaligned candidate is a refused access (R178, R146). -/
def State.presentWalker (s : State) : State :=
  match s.walker.look with
  | none => s
  | some k =>
      match k.stage with
      | .misaligned a => (s.recordFault .sheetWalker .read a.toNat .window).lookFault k
      | _ =>
          match s.lookAccess k with
          | none => s
          | some a =>
              (s.setLook (some { k with placed := k.placed || decide (a.direction = .write) })).present
                .sheetWalker a

/-! ## The header (R144, R145, R147 checks 1 and 2, R152) -/

/-- The control lane is lane 4. -/
def isControlLane (n : Lane) : Bool := decide (n = 4)

/-- The head of a station lane. -/
def headOfLane (n : Lane) : Head := Fin.ofNat 4 n.val

/-- The owner of the lane's candidate cannot take it now (R145). -/
def State.ownerBusy (n : Lane) (s : State) : Bool :=
  if isControlLane n then s.orderInProgress else decide ((s.record (headOfLane n)).state ≠ .idle)

/-- The kind and the size of the fixed part that a lane requires (R147, R152). -/
def kindOfLane (n : Lane) : Word := if isControlLane n then 2 else 1
def fixedPartOf (n : Lane) : Nat := if isControlLane n then Config.orderSheetBytes else Config.stationSheetBytes

/-- A FILED candidate whose owner is free: checks 1 and 2 (R147, R152). -/
def State.validateHeader (k : Look) (kind : Word) (s : State) : State :=
  if kind ≠ kindOfLane k.lane then s.refuseSheet k .kind
  else if s.insideSheet k.candidate.toNat (fixedPartOf k.lane) = false then s.refuseSheet k .window
  else s.setLook (some { k with stage := if isControlLane k.lane then .takenWrite else .requestRead })

/-- The candidate's header is answered (R144, R145). -/
def State.headerAnswered (k : Look) (ws : List Word) (s : State) : State :=
  let k := { k with next := wordAt ws 2 }
  if wordAt ws 0 = stateVoid then s.passCandidate k true
  else if wordAt ws 0 = stateFiled then
    if s.ownerBusy k.lane then s.endLook k .busy false else s.validateHeader k (wordAt ws 1)
  else s.endLook k .waiting false

/-! ## The request part (R147 checks 3 to 8, R148) -/

/-- The loop that a loop id byte names. -/
def loopOfByte (b : Byte) : Option LoopId := if h : b.toNat < 4 then some ⟨b.toNat, h⟩ else none

/-- Check 5: 0 to 3, or FFh with role STATION. -/
def loopIdAllowed (role : Role) (b : Byte) : Bool :=
  decide (b.toNat < 4) || (decide (b = 0xFF) && decide (role = .station))

/-- Check 6. -/
def limitsAllowed (q : StationRequest) : Bool :=
  decide (q.set.toNat ≤ 7 ∧ 1 ≤ q.target ∧ 1 ≤ q.minGood ∧ q.minGood ≤ q.target ∧
    1 ≤ q.settleLimit ∧ q.settleLimit ≤ 3600 ∧ 1 ≤ q.acquireLimit ∧ q.acquireLimit ≤ 3600 ∧
    q.linkGrace ≤ 600 ∧ q.maxIntr ≤ 15 ∧ q.trailCap ≤ 4096)

/-- Check 7. -/
def State.trailInside (sheet : Word) (q : StationRequest) (s : State) : Bool :=
  s.insideSheet (sheet.toNat + Config.stationSheetBytes) (Config.trailRecordBytes * q.trailCap)

/-- Check 8 fails: the clock is needed and not set. -/
def State.clockMissing (q : StationRequest) (s : State) : Bool :=
  !s.ctrl.clockSet && (q.options.tide || (loopOfByte q.loop).isSome)

/-- The first of checks 3 to 8 that fails (R147, R148). -/
def State.stationFault (n : Lane) (sheet : Word) (q : StationRequest) (s : State) : Option Reason :=
  if q.head.toNat ≠ n.val then some .head
  else
    match roleOf q.role with
    | none => some .role
    | some role =>
        if loopIdAllowed role q.loop = false then some .loopId
        else if limitsAllowed q = false then some .limits
        else if s.trailInside sheet q = false then some .window
        else if s.clockMissing q then some .clockUnset
        else none

/-- The request part is answered (R147, R148). -/
def State.requestAnswered (k : Look) (ws : List Word) (s : State) : State :=
  let q := parseRequest ws
  match s.stationFault k.lane k.candidate q with
  | some r => s.refuseSheet k r
  | none => s.setLook (some { k with stage := .calCheck, request := some q })

/-! ## Answers (R142 to R152, R154) -/

/-- The event that a refusal on a lane raises (R151). -/
def refusalEvent (n : Lane) : Event := if isControlLane n then .order else .sheet

/-- The stage after TAKEN has landed (R150, R152). -/
def takeStage (n : Lane) : LookStage := if isControlLane n then .orderTake else .take

/-- An access of a look that goes on is answered OKAY. -/
def State.lookAnswered (k : Look) (ws : List Word) (s : State) : State :=
  match k.stage with
  | .rootRead => s.candidateAt k (wordAt ws 0)
  | .nextRead => s.candidateAt k (wordAt ws 0)
  | .headerRead => s.headerAnswered k ws
  | .requestRead => s.requestAnswered k ws
  | .takenWrite => s.setLook (some { k with stage := takeStage k.lane })
  | .answerWrite _ => s.setLook (some { k with stage := .refusedWrite })
  | .refusedWrite => (s.raise (refusalEvent k.lane)).passCandidate k true
  | .misaligned _ | .calCheck | .take | .orderTake => s

/-- An access of the walker is answered OKAY; a look that STOP met with no write placed ends (R154). -/
def State.walkerOkay (ws : List Word) (s : State) : State :=
  match s.walker.look with
  | none => s
  | some k => if k.stopped && !k.placed then s.lookStopped k else s.lookAnswered k ws

/-- An access of the walker ends in a fault (R146, log 16). -/
def State.walkerFault (s : State) : State :=
  match s.walker.look with
  | none => s
  | some k => s.lookFault k

/-! ## The take (R150) -/

/-- The set that a request part names. -/
def setOfByte (b : Byte) : SetId := Fin.ofNat 8 b.toNat

/-- The loop check of a sheet: the state after it and the loop_gen of the take (R150, R3). -/
def State.sheetLoopCheck (role : Role) (loop : Option LoopId) (s : State) : Option (State × BitVec 32) :=
  match loop with
  | none => some (s, 0)
  | some l => (s.loopCheck role l).map fun t => (t, (t.loopAt l).generation)

/-- Check 10 fails: the head's identity is known and is not the claimed set's (R150). -/
def State.identityMismatch (k : Look) (s : State) : Bool :=
  let x := s.headState (headOfLane k.lane)
  x.known && decide (x.serial ≠ k.claimSerial)

/-- The take of a station sheet: checks 10 and 11, the record's take, and on along the lane (R150). -/
def State.takeStation (k : Look) (q : StationRequest) (c : SetId) (role : Role) (s : State) : State :=
  if s.identityMismatch k then s.refuseSheet k .headMismatch
  else
    match s.sheetLoopCheck role (loopOfByte q.loop) with
    | none => s.refuseSheet k .loopState
    | some (t, g) =>
        (t.takeRecord (headOfLane k.lane) k.candidate q role (loopOfByte q.loop) g c).passCandidate
          { k with claim := none } false

/-! ## The meanings -/

/-- POLL_EXPIRY (R141). -/
def execPollExpiry (s : State) : Host.Outcome State Fault Refusal :=
  if s.due s.walker.pollTimer = true then
    .next { s with walker := { s.walker with pollTimer := s.pollExpiry } }.setUnheldFlags
  else .next s

/-- LOOK_BEGIN (R142, R143). -/
def execLookBegin (s : State) : Host.Outcome State Fault Refusal :=
  match s.walker.look, s.nextLane with
  | none, some n =>
      let t := s.updLane n fun r => { r with flag := false }
      .next { t with walker := { t.walker with lastServed := n, look := some (newLook n (s.lane n)) } }
  | _, _ => .next s

/-- CALIBRATION_CHECK (R90, R149). -/
def execCalibrationCheck (s : State) : Host.Outcome State Fault Refusal :=
  match s.walker.look with
  | none => .next s
  | some k =>
      match k.stage, k.request with
      | .calCheck, some q =>
          let c := setOfByte q.set
          if (s.calSet c).state = .valid then
            .next ((s.updCalSet c fun x => { x with use := x.use + 1 }).setLook
              (some { k with stage := .takenWrite, claim := some c,
                             claimSerial := (s.calSet c).contents.serial }))
          else .next (s.refuseSheet k .calEmpty)
      | _, _ => .next s

/-- TAKE (R150). -/
def execTake (s : State) : Host.Outcome State Fault Refusal :=
  match s.walker.look with
  | none => .next s
  | some k =>
      match k.stage, k.request, k.claim with
      | .take, some q, some c =>
          match roleOf q.role with
          | none => .next s
          | some role => .next (s.takeStation k q c role)
      | _, _, _ => .next s

/-- ORDER_TAKE (R152, R160). -/
def execOrderTake (s : State) : Host.Outcome State Fault Refusal :=
  match s.walker.look with
  | none => .next s
  | some k =>
      match k.stage with
      | .orderTake =>
          .next (({ s with order := { sheet := some k.candidate, stage := .reading } } : State).passCandidate k
            false)
      | _ => .next s

end Sys2Proof.Machine
end

