-- ==== Sys2Proof/Machine/Port.lean ====
section
/-! DEFINITION. The Memory Port (10): presentation of accesses, the arbiter, grants, window checks, bus answers and faults. -/

namespace Sys2Proof.Machine

/-! ## Requesters (10 "requesters and accesses") -/

/-- A requester by its number. -/
def requesterAt (n : Fin 6) : Requester :=
  match n with
  | 0 => .sheetWalker
  | 1 => .orderExecutor
  | 2 => .tideUnit
  | 3 => .occupationController
  | 4 => .driftUnit
  | 5 => .controlPort

/-- An answered access reaches its requester (R174). -/
def State.requesterOkay (r : Requester) (ws : List Word) (s : State) : State :=
  match r with
  | .sheetWalker => s.walkerOkay ws
  | .orderExecutor => s.orderOkay ws
  | .tideUnit => s.tideOkay ws
  | .occupationController => s.occOkay
  | .driftUnit => s.driftOkay
  | .controlPort => s.controlOkay ws

/-- A faulted access reaches its requester (R180). -/
def State.requesterFault (r : Requester) (k : FaultKind) (s : State) : State :=
  match r with
  | .sheetWalker => s.walkerFault
  | .orderExecutor => s.orderFault k
  | .tideUnit => s.tideFault k
  | .occupationController => s.occFault
  | .driftUnit => s.driftFault
  | .controlPort => s.controlFault

/-- A fault at the port, and its consequence at the requester (R180). -/
def State.portFault (r : Requester) (d : Direction) (address : Nat) (k : FaultKind) (s : State) : State :=
  (s.recordFault r d address k).requesterFault r k

/-- A requester presents what it next has to present (R174, R107, R22, R48, R194). -/
def State.presentNext (r : Requester) (s : State) : State :=
  match r with
  | .sheetWalker => s.presentWalker
  | .orderExecutor =>
      match s.orderAccess with
      | none => s
      | some a => s.present .orderExecutor a
  | .tideUnit => s.presentTide
  | .occupationController => s.presentOccupation
  | .driftUnit =>
      match s.driftAccess with
      | none => s
      | some a => s.present .driftUnit a
  | .controlPort =>
      if s.ctrl.starting = some .directory then s.presentDirectory else s.presentRefresh

/-! ## Grants (R176 to R178) -/

/-- The round order of the arbiter (R176). -/
def roundOrder (p : Fin 6) : List (Fin 6) := [p + 1, p + 2, p + 3, p + 4, p + 5, p + 6]

/-- The requester that the arbiter chooses: with the bus free every presented access is waiting (R174, R176). -/
def State.chosenRequester (s : State) : Option (Fin 6) :=
  (roundOrder s.port.pointer).find? fun n => s.port.slots[n].isSome

/-- The next grant of an access (R177). -/
def grantOf (r : Requester) (size : Nat) (t : Transfer) : Grant where
  requester := r
  direction := t.access.direction
  address := t.access.address + 4 * t.done
  count := min (t.access.count - t.done) size
  words := (t.access.words.drop t.done).take (min (t.access.count - t.done) size)
  retryCount := 0
  discard := false

/-- A grant lies inside a window (R178). -/
def insideWindow (w : Option Window) (g : Grant) : Bool :=
  match w with
  | none => false
  | some w => decide (w.base ≤ g.address ∧ g.address + 4 * g.count ≤ w.limit)

/-- The window check of a grant (R178). -/
def State.grantPasses (s : State) (c : WindowClass) (g : Grant) : Bool :=
  match c with
  | .sheet => insideWindow s.port.sheetWindow g
  | .table => insideWindow s.port.tableWindow g
  | .none => true

def State.setGrant (g : Option Grant) (s : State) : State := { s with port := { s.port with grant := g } }

/-- The chosen access forms its grant, which is issued or is a WINDOW fault (R176 to R178). -/
def State.formGrant (n : Fin 6) (t : Transfer) (s : State) : State :=
  let s := { s with port := { s.port with pointer := n } }
  let g := grantOf (requesterAt n) s.port.grantSize t
  if s.grantPasses t.access.window g then s.setGrant (some g)
  else s.portFault (requesterAt n) g.direction g.address .window

/-! ## Bus answers (R177, R179, R182) -/

/-- A read grant is answered with its words (R177). -/
def answerFits (g : Grant) (data : List Word) : Bool :=
  decide (g.direction = .write ∨ data.length = g.count)

/-- A transfer after one more grant (R177). -/
def grantDone (g : Grant) (data : List Word) (t : Transfer) : Transfer :=
  { t with done := t.done + g.count,
           data := if g.direction = .read then t.data ++ data else t.data }

/-- A grant is answered OKAY: the access is answered, or waits for its next grant (R177). -/
def State.grantOkay (g : Grant) (data : List Word) (s : State) : State :=
  let s := s.setGrant none
  match s.slot g.requester with
  | none => s
  | some t =>
      let t := grantDone g data t
      if t.access.count ≤ t.done then (s.setSlot g.requester none).requesterOkay g.requester t.data
      else s.setSlot g.requester (some t)

/-- A grant is answered RETRY (R179). -/
def State.grantRetry (g : Grant) (s : State) : State :=
  if g.retryCount < s.port.retryLimit then s.setGrant (some { g with retryCount := g.retryCount + 1 })
  else (s.setGrant none).portFault g.requester g.direction g.address .retryExhausted

/-- The answer of a discarded grant; a directory read that waited for it is presented (R182, R187). -/
def State.discardedAnswer (s : State) : State := (s.setGrant none).presentDirectory

/-! ## The meanings -/

/-- ACCESS_PRESENT (R174, R178). -/
def execAccessPresent (r : Requester) (s : State) : Host.Outcome State Fault Refusal :=
  if s.slot r = none then .next (s.presentNext r) else .next s

/-- GRANT (R176 to R178). -/
def execGrant (s : State) : Host.Outcome State Fault Refusal :=
  if s.port.grant = none then
    match s.chosenRequester with
    | none => .next s
    | some n =>
        match s.port.slots[n] with
        | none => .next s
        | some t => .next (s.formGrant n t)
  else .next s

/-- BUS_ANSWER (R177, R179, R180, R182). -/
def execBusAnswer (a : BusAnswer) (s : State) : Host.Outcome State Fault Refusal :=
  match s.port.grant with
  | none => .next s
  | some g =>
      if g.discard then .next s.discardedAnswer
      else
        match a with
        | .okay data => if answerFits g data then .next (s.grantOkay g data) else .next s
        | .retry => .next (s.grantRetry g)
        | .error => .next ((s.setGrant none).portFault g.requester g.direction g.address .busError)

end Sys2Proof.Machine
end

