-- ==== Sys2Proof/Machine/Dispatch.lean ====
section
/-! DEFINITION. The commands and their meanings: one arm for each constructor of Instr. -/

namespace Sys2Proof.Machine

def exec (i : Instr) (s : State) : Host.Outcome State Fault Refusal :=
  match i with
  | .powerOnReset => Sys2Proof.Machine.execPowerOnReset s
  | .run w => Sys2Proof.Machine.execRun w s
  | .stop w => Sys2Proof.Machine.execStop w s
  | .reset w => Sys2Proof.Machine.execReset w s
  | .attentionConfiguration w => Sys2Proof.Machine.execAttentionConfiguration w s
  | .rootWrite w => Sys2Proof.Machine.execRootWrite w s
  | .notice w => Sys2Proof.Machine.execNotice w s
  | .eventsClear w => Sys2Proof.Machine.execEventsClear w s
  | .registerWrite r w => Sys2Proof.Machine.execRegisterWrite r w s
  | .eventArrival e => Sys2Proof.Machine.execEventArrival e s
  | .accessPresent r => Sys2Proof.Machine.execAccessPresent r s
  | .grant => Sys2Proof.Machine.execGrant s
  | .busAnswer a => Sys2Proof.Machine.execBusAnswer a s
  | .statusTimerExpiry => Sys2Proof.Machine.execStatusTimerExpiry s
  | .startMark h cells => Sys2Proof.Machine.execStartMark h cells s
  | .headerComplete h cells => Sys2Proof.Machine.execHeaderComplete h cells s
  | .frameEnd h cells => Sys2Proof.Machine.execFrameEnd h cells s
  | .timingLoss h cell => Sys2Proof.Machine.execTimingLoss h cell s
  | .silenceExpiry h => Sys2Proof.Machine.execSilenceExpiry h s
  | .headResetLinkPart => Sys2Proof.Machine.execHeadResetLinkPart s
  | .frameChoice => Sys2Proof.Machine.execFrameChoice s
  | .judgingEvent => Sys2Proof.Machine.execJudgingEvent s
  | .deliveryForming => Sys2Proof.Machine.execDeliveryForming s
  | .tideLookup => Sys2Proof.Machine.execTideLookup s
  | .headResetJudgePart => Sys2Proof.Machine.execHeadResetJudgePart s
  | .linkDownAtCorrection h => Sys2Proof.Machine.execLinkDownAtCorrection h s
  | .identityReport h => Sys2Proof.Machine.execIdentityReport h s
  | .judgeTransitionSettled h => Sys2Proof.Machine.execJudgeTransitionSettled h s
  | .interruption h => Sys2Proof.Machine.execInterruption h s
  | .disposition => Sys2Proof.Machine.execDisposition s
  | .credit => Sys2Proof.Machine.execCredit s
  | .settleExpiry h => Sys2Proof.Machine.execSettleExpiry h s
  | .acquireExpiry h => Sys2Proof.Machine.execAcquireExpiry h s
  | .graceExpiry h => Sys2Proof.Machine.execGraceExpiry h s
  | .linkTransitionAtRecord h => Sys2Proof.Machine.execLinkTransitionAtRecord h s
  | .headResetRecordPart => Sys2Proof.Machine.execHeadResetRecordPart s
  | .join h => Sys2Proof.Machine.execJoin h s
  | .landingReport h => Sys2Proof.Machine.execLandingReport h s
  | .failureReport h => Sys2Proof.Machine.execFailureReport h s
  | .spanExpiry l => Sys2Proof.Machine.execSpanExpiry l s
  | .finalizationEntry => Sys2Proof.Machine.execFinalizationEntry s
  | .pollExpiry => Sys2Proof.Machine.execPollExpiry s
  | .lookBegin => Sys2Proof.Machine.execLookBegin s
  | .calibrationCheck => Sys2Proof.Machine.execCalibrationCheck s
  | .take => Sys2Proof.Machine.execTake s
  | .orderTake => Sys2Proof.Machine.execOrderTake s
  | .setClock => Sys2Proof.Machine.execSetClock s
  | .setHead => Sys2Proof.Machine.execSetHead s
  | .loadCal => Sys2Proof.Machine.execLoadCal s
  | .clearCal => Sys2Proof.Machine.execClearCal s
  | .swapTide => Sys2Proof.Machine.execSwapTide s
  | .cancel => Sys2Proof.Machine.execCancel s
  | .cancelWithdrawal => Sys2Proof.Machine.execCancelWithdrawal s
  | .abortLoop => Sys2Proof.Machine.execAbortLoop s
  | .headReset => Sys2Proof.Machine.execHeadReset s
  | .trackerLock h intervals => Sys2Proof.Machine.execTrackerLock h intervals s
  | .missedCell h cells cell => Sys2Proof.Machine.execMissedCell h cells cell s

end Sys2Proof.Machine
end

