-- ==== Sys2Proof/Safety.lean ====
section
/-! DEFINITION. What statements about the GC4 speak of: the frame of a command, block by block (00 "block overview"), and
the invariants of the machine. -/

namespace Sys2Proof.Machine

/-! ## Frames -/

/-- The blocks of the part (00 "block overview"); the links are the four Link Receivers. -/
inductive Block where
  | links | corr | tide | cal | occ | drift | walker | order | port | ctrl
  deriving DecidableEq, Repr

/-- Two states agree on a block. -/
def sameBlock (b : Block) (s t : State) : Prop :=
  match b with
  | .links => t.links = s.links
  | .corr => t.corr = s.corr
  | .tide => t.tide = s.tide
  | .cal => t.cal = s.cal
  | .occ => t.occ = s.occ
  | .drift => t.drift = s.drift
  | .walker => t.walker = s.walker
  | .order => t.order = s.order
  | .port => t.port = s.port
  | .ctrl => t.ctrl = s.ctrl

/-- Nothing has changed outside the blocks named; the waiting commands are the same. -/
def unchangedBut (bs : List Block) (s t : State) : Prop :=
  t.pending = s.pending ∧ ∀ b : Block, b ∉ bs → sameBlock b s t

/-- Bytes as they pass on a line: each least significant bit first (R116). -/
def bytesAsBits (bytes : List Byte) : List Bool :=
  bytes.flatMap fun b => [0, 1, 2, 3, 4, 5, 6, 7].map fun i => b.getLsbD i

/-- R124, R129 to R131: what a bad frame event of link h leaves. The assembler is in HUNT and the queue is kept. A DOWN
judge starts its run of good frames anew; an UP one counts the event, and at LINK_OUT goes DOWN, which raises LINK and is
presented to the Correction Unit and to record h. -/
def badFrameTaken (h : Head) (s t : State) : Prop :=
  (t.link h).assembler = .hunt ∧ (t.link h).queue = (s.link h).queue ∧ (∀ i, i ≠ h → t.link i = s.link i) ∧
  ((s.link h).judge = .down → (t.link h).judge = .down ∧ (t.link h).goodRun = 0 ∧
    unchangedBut [.links] s t) ∧
  ((s.link h).judge = .up → (s.link h).badRun + 1 < (s.link h).linkOut →
    (t.link h).judge = .up ∧ (t.link h).badRun = (s.link h).badRun + 1 ∧
    (t.link h).silenceTimer = (s.link h).silenceTimer ∧ (t.link h).expected = (s.link h).expected ∧
    unchangedBut [.links] s t) ∧
  ((s.link h).judge = .up → (s.link h).linkOut ≤ (s.link h).badRun + 1 →
    (t.link h).judge = .down ∧ (t.link h).goodRun = 0 ∧ (t.link h).badRun = 0 ∧
    (t.link h).silenceTimer = none ∧ (t.link h).expected = none ∧
    t.ctrl = { s.ctrl with raised := s.ctrl.raised ++ [.link] } ∧
    t.corr = { s.corr with downMsgs := s.corr.downMsgs.set h (s.corr.downMsgs[h] + 1) } ∧
    t.inbox h = { s.inbox h with linkMsgs := (s.inbox h).linkMsgs ++ [.down] } ∧
    (∀ i, t.record i = s.record i) ∧ unchangedBut [.links, .corr, .occ, .ctrl] s t)

/-- Two words of a record hold a 64-bit signed quantity, the low word first; a quantity out of range is the nearer bound
(R47, R74, 00 conventions). -/
def holdsI64 (lo hi : Word) (x : Int) : Prop := (hi ++ lo).toInt = clamp64 x

/-- Word at `offset` of the status block that a refresh writes now; the body begins at 04h (12 "status block"). -/
def statusWord (s : State) (offset : Nat) : Word := wordAt s.snapshot (offset / 4 - 1)

/-! ## Reports to the Control Port and to the Sheet Walker -/

/-- R188: the stop condition. Every record is IDLE, no order is in progress, and no look is carried through after a STOP
(R154). -/
def stopHolds (s : State) : Prop :=
  (∀ h, (s.record h).state = .idle) ∧ s.order.stage = .none ∧
    ∀ k, s.walker.look = some k → k.stopped = true → k.placed = false

/-- R193: what a request for a refresh makes of the Control Port. With no status block address it has no effect; with no
refresh in progress it starts one; otherwise the pending flag is set. -/
def refreshRequested (c : ControlPort) : ControlPort :=
  if c.statusAddress = none then c
  else if c.refresh = none then { c with refresh := some .odd }
  else { c with refreshPending := true }

/-- R188: what an event that leads from `s` to `t`, raises `raised` and ends with the test of the stop condition leaves at the
Control Port. In STOPPING with the condition met the engine is STOPPED, with ENGINE raised and a refresh requested (R186,
R193); otherwise only `raised` is new. -/
def stopTested (raised : List Event) (s t : State) : Prop :=
  (s.ctrl.engine = .stopping → stopHolds t →
    t.ctrl = refreshRequested
      { s.ctrl with engine := .stopped, raised := s.ctrl.raised ++ raised ++ [.engine] }) ∧
  (s.ctrl.engine ≠ .stopping ∨ ¬ stopHolds t →
    t.ctrl = { s.ctrl with raised := s.ctrl.raised ++ raised })

/-- R188, R154: the Control Port after an event of look `k` that raises `raised` and at which the look, where it is one that
was carried through after a STOP, ends. -/
def lookTested (k : Look) (raised : List Event) (s t : State) : Prop :=
  (k.stopped = true → k.placed = true → stopTested raised s t) ∧
  (k.stopped = false ∨ k.placed = false → t.ctrl = { s.ctrl with raised := s.ctrl.raised ++ raised })

/-- R141: lane `n`, where it is BUSY in RUNNING, has its look flag set, and nothing else of the Sheet Walker changes. -/
def busyLaneFlagged (n : Lane) (s t : State) : Prop :=
  (s.ctrl.engine = .running → (s.lane n).state = .busy →
    t.walker = { s.walker with lanes := s.walker.lanes.set n { s.lane n with flag := true } }) ∧
  (s.ctrl.engine ≠ .running ∨ (s.lane n).state ≠ .busy → t.walker = s.walker)

/-! ## Answers -/

/-- The words that an access has read once a grant of it is answered OKAY with `data` (R177). -/
def wordsRead (g : Grant) (x : Transfer) (data : List Word) : List Word :=
  if g.direction = .read then x.data ++ data else x.data

/-- A bus answer OKAY with `data` completes the access of requester `r`, which has then read the words `ws` (R177). -/
def completes (r : Requester) (data ws : List Word) (s : State) : Prop :=
  ∃ g x, s.port.grant = some g ∧ g.discard = false ∧ g.requester = r ∧
    (g.direction = .write ∨ data.length = g.count) ∧ s.slot r = some x ∧
    x.access.count ≤ x.done + g.count ∧ ws = wordsRead g x data

/-- Command `c` ends the access of requester `r` with a fault of kind `k` (R178 to R180): the arbiter serves `r` and its
grant would leave its window, or the grant in flight is answered RETRY at the limit, or ERROR. -/
def faults (r : Requester) (k : FaultKind) (c : Instr) (s : State) : Prop :=
  match k with
  | .window => c = .grant ∧ s.port.grant = none ∧ s.chosenRequester = some r.number ∧
      ∃ x, s.slot r = some x ∧ s.grantPasses x.access.window (grantOf r s.port.grantSize x) = false
  | .retryExhausted => c = .busAnswer .retry ∧
      ∃ g, s.port.grant = some g ∧ g.discard = false ∧ g.requester = r ∧ s.port.retryLimit ≤ g.retryCount
  | .busError => c = .busAnswer .error ∧
      ∃ g, s.port.grant = some g ∧ g.discard = false ∧ g.requester = r

/-- The state with the grant and the access of `r` done with, before the answer acts on the requester. -/
def State.freed (r : Requester) (s : State) : State := (s.setGrant none).setSlot r none

/-! ## Invariants -/

/-- R132: each frame queue holds between 0 and 8 frames. -/
def framesBounded (s : State) : Prop := ∀ h : Head, (s.link h).queue.length ≤ 8

/-- R184, R186, R187, R141, R154: the fault reason is NONE outside FAULTED, a start-up runs in STARTING alone, and
the poll timer, the look flags and a look that no STOP has met belong to RUNNING; ROOT is a multiple of 8. -/
def engineConsistent (s : State) : Prop :=
  (s.ctrl.engine = .faulted ↔ s.ctrl.faultReason ≠ .none) ∧
  (s.ctrl.engine = .starting ↔ s.ctrl.starting ≠ none) ∧
  (s.tide.scanOwner = some .starting → s.ctrl.starting = some .scan) ∧
  (s.walker.pollTimer ≠ none → s.ctrl.engine = .running) ∧
  (∀ n : Lane, (s.lane n).flag = true → s.ctrl.engine = .running) ∧
  (∀ k, s.walker.look = some k → k.stopped = false → s.ctrl.engine = .running) ∧
  s.ctrl.root.toNat % 8 = 0

/-- R30, R49: a FREE loop holds nothing but its generation, and the span timer is armed exactly while the loop
is OPEN. -/
def loopShape (x : Loop) : Prop :=
  (x.state = .free → x = { generation := x.generation }) ∧ (x.spanTimer ≠ none ↔ x.state = .opened)

def loopsShaped (s : State) : Prop := ∀ l : LoopId, loopShape (s.loopAt l)

/-- R35: the entries in use never exceed the 64 of the pool. -/
def poolBounded (s : State) : Prop := s.poolUsed ≤ 64

/-- R88: what the contents of a VALID set satisfy. -/
def contentsChecked (k : CalContents) : Prop :=
  k.latency ≤ 10000 ∧ 1 ≤ k.tiltMax ∧ k.tiltMax ≤ 32767 ∧ k.cntMin ≤ k.cntMax ∧ k.tMin ≤ k.tMax ∧
    2 ≤ k.points.length ∧ k.points.length ≤ 16 ∧ (k.points.map Prod.fst).Pairwise (· < ·)

/-- R87, R88: a VALID set's contents have passed the checks, those of an EMPTY set are the reset values, and a load that
has read its fixed part has found a point count of 2 to 16. -/
def setsChecked (s : State) : Prop :=
  (∀ c : SetId, ((s.calSet c).state = .valid → contentsChecked (s.calSet c).contents) ∧
    ((s.calSet c).state = .empty → (s.calSet c).contents = {})) ∧
  ∀ l, s.cal.load = some l → l.fixed ≠ [] → 2 ≤ calPointCount l.fixed ∧ calPointCount l.fixed ≤ 16

/-- R22, R23: trail_next never exceeds trail_cap, and the write queue holds at most 16 trail records. -/
def trailsBounded (s : State) : Prop :=
  (∀ h : Head, (s.record h).trailNext ≤ (s.record h).trailCap) ∧ s.queuedTrails ≤ 16

/-- R102: the cache holds up to four segments, no two of the same index. -/
def cacheShaped (s : State) : Prop :=
  s.tide.cache.length ≤ 4 ∧ (s.tide.cache.map CacheEntry.index).Nodup

/-- An invariant that every step keeps. -/
def keptByStep (inv : State → Prop) : Prop := ∀ s t : State, inv s → step s = .next t → inv t

end Sys2Proof.Machine
end

