-- ==== Sys2Proof/WellFormed.lean ====
section
/-! DEFINITION. Which command terms spell an event of the manual: the CONTROL word of a row holds the row's
own commands (R185, 12 "registers"), a bus answer or a run of cells is no longer than one grant or one frame can be
(R175, R122, R123), and the transitions of a line come one after another (R116). -/

namespace Sys2Proof

/-- RUN is bit 0 of CONTROL, STOP bit 1, RESET bit 2 (12 "registers"). -/
def controlRun (w : Word) : Bool := w.getLsbD 0
def controlStop (w : Word) : Bool := w.getLsbD 1
def controlReset (w : Word) : Bool := w.getLsbD 2

/-- A grant is at most 64 words (R175). -/
def maxGrantWords : Nat := 64

/-- Header bits, and payload and CRC bits of the longest frame (R122, R123, 12 "link frame"). -/
def headerBits : Nat := 40
def maxFrameBits : Nat := 8 * (128 + 2)

/-- Places on a line in the order of time. -/
def placesRise : List Nat → Bool
  | a :: b :: rest => decide (a < b) && placesRise (b :: rest)
  | _ => true

/-- The transitions of a run of cells come one after another (R116). -/
def cellsRise (cells : List TrackCell) : Bool :=
  placesRise (cells.flatMap fun c => c.boundary.toList ++ c.mid.toList)

/-- The transitions of an interval come one after another. -/
def Interval.rises (v : Interval) : Bool := placesRise (v.start :: v.inner ++ [v.finish])

/-- A run of intervals, each beginning where the one before it ends (R118). -/
def intervalsFollow : List Interval → Bool
  | v :: w :: rest => v.rises && decide (v.finish = w.start) && intervalsFollow (w :: rest)
  | [v] => v.rises
  | [] => true

/-- The operands of a command have the form its row gives them. -/
def Instr.wellFormed : Instr → Bool
  | .run w => controlRun w && !controlStop w && !controlReset w
  | .stop w => controlStop w && !controlRun w && !controlReset w
  | .reset w => controlReset w
  | .attentionConfiguration w => !controlReset w && (controlRun w == controlStop w)
  | .busAnswer (.okay data) => decide (data.length ≤ maxGrantWords)
  | .startMark _ cells => cellsRise cells
  | .headerComplete _ cells => decide (cells.length ≤ headerBits) && cellsRise cells
  | .frameEnd _ cells => decide (cells.length ≤ maxFrameBits) && cellsRise cells
  | .missedCell _ cells cell => cellsRise (cells ++ [cell])
  | .timingLoss _ cell => cellsRise [cell]
  | .trackerLock _ intervals => !intervals.isEmpty && intervalsFollow intervals
  | .powerOnReset | .rootWrite _ | .notice _ | .eventsClear _ | .registerWrite _ _ | .eventArrival _
  | .accessPresent _ | .grant | .busAnswer .retry | .busAnswer .error | .statusTimerExpiry
  | .silenceExpiry _ | .headResetLinkPart | .frameChoice | .judgingEvent
  | .deliveryForming | .tideLookup | .headResetJudgePart | .linkDownAtCorrection _ | .identityReport _
  | .judgeTransitionSettled _ | .interruption _ | .disposition | .credit | .settleExpiry _
  | .acquireExpiry _ | .graceExpiry _ | .linkTransitionAtRecord _ | .headResetRecordPart | .join _
  | .landingReport _ | .failureReport _ | .spanExpiry _ | .finalizationEntry | .pollExpiry
  | .lookBegin | .calibrationCheck | .take | .orderTake | .setClock | .setHead | .loadCal | .clearCal
  | .swapTide | .cancel | .cancelWithdrawal | .abortLoop | .headReset => true

end Sys2Proof
end

