-- ==== Sys2Proof/Certificates/Slice0/Obligations.lean ====
section
/-! DEFINITION. The statements for the provers. Each names the rule of spec/ it rests on; OBLIGATIONS.json holds their
titles. -/

section

open Sys2Proof Sys2Proof.Machine

/-! ## The queue of commands -/

/-- A step takes the command at the front of the queue. On an empty queue it is one millisecond: the elapsed counter,
and with it the survey clock, advances by 1 modulo 2^64, and nothing else changes (R190). That commands and
milliseconds are told apart by the queue is the model's choice: notes/assumptions/2.md, 3.md, 26.md. -/
def Obligations.StepTakesFrontCommand : Prop :=
  (∀ (c : Instr) (rest : List Instr) (s : State), s.pending = c :: rest →
    step s = exec c { s with pending := rest }) ∧
  (∀ s : State, s.pending = [] →
    step s = .next { s with ctrl := { s.ctrl with elapsed := s.ctrl.elapsed + 1 } } ∧
    ∀ t, step s = .next t → t.survey = s.survey + 1 ∧ t.ctrl.offset = s.ctrl.offset) ∧
  (∀ s : State, s.survey.toNat = (s.ctrl.elapsed.toNat + s.ctrl.offset.toNat) % 2 ^ 64)

/-! ## Control Port (11) -/

/-- Power-on reset (R189, with R2, R30, R54, R87, R100, R136, R140, R159 and R175). The model's own choices in it, among
them the role STATION and the answer FINAL of a record, whose 0 of R2 codes no role and no answer:
notes/assumptions/21.md. -/
def Obligations.PowerOnResetState : Prop :=
  (∀ s : State, exec .powerOnReset s = .next { State.reset with pending := s.pending }) ∧
  (State.reset.ctrl.engine = .halted ∧ State.reset.ctrl.faultReason = .none ∧ State.reset.ctrl.root = 0 ∧
    State.reset.ctrl.events = 0 ∧ State.reset.ctrl.eventEnable = 0 ∧ State.reset.ctrl.elapsed = 0 ∧
    State.reset.ctrl.offset = 0 ∧ State.reset.ctrl.clockSet = false ∧
    State.reset.ctrl.statusAddress = none ∧ State.reset.ctrl.statusTimer = none ∧
    State.reset.ctrl.generation = 0 ∧ State.reset.ctrl.refreshPending = false ∧
    State.reset.ctrl.attention = { live := false, activeLow := false, source := 0 }) ∧
  (State.reset.port.pointer = 5 ∧ (∀ r, State.reset.slot r = none) ∧ State.reset.port.grant = none ∧
    State.reset.port.sheetWindow = none ∧ State.reset.port.tableWindow = none ∧
    State.reset.port.retryLimit = 3 ∧ State.reset.port.grantSize = 4 ∧ State.reset.port.lastFault = none) ∧
  (∀ h, State.reset.inbox h = {} ∧ State.reset.record h =
    { state := .idle, takeNo := 0, sheet := 0, role := .station, loopId := some 0, loopGen := 0, calSet := 0,
      options := ⟨false, false, false, false, false⟩, baseRef := 0, target := 0, minGood := 0, settleLimit := 0,
      acquireLimit := 0, linkGrace := 0, maxIntr := 0, trailCap := 0, trailBase := 0, trailNext := 0,
      trailCount := 0, trailOverflow := false, trailFault := false, acc := ⟨0, 0, 0, 0, 0, 0, 0, 0, 0, 0⟩,
      rejHead := 0, rejGate := 0, rejTilt := 0, rejTide := 0, settling := 0, intr := 0, settleTimer := none,
      acquireTimer := none, graceTimer := none, acqSeen := false, outcome := none, step := none,
      joinFailed := false, answer := ⟨false, ⟨.none, 0, 0, false, 0, 0⟩⟩ }) ∧
  State.reset.occ.queue = [] ∧ State.reset.occ.issued = none ∧
  (∀ l, State.reset.loopAt l = { state := .free, generation := 0 }) ∧ State.reset.drift.batches = [] ∧
  (∀ h, State.reset.headState h =
    { judge := .unsettled, inRun := 0, outRun := 0, prevTemp := none, phase := 0, known := false, serial := 0,
      kind := 0, rate := 0, tolIn := 20, tolOut := 40, tempStep := 0, runIn := 30, runOut := 5, on := 0,
      off := 0, levelX := 0, levelY := 0 }) ∧ State.reset.corr.pointer = 0 ∧
  (∀ h, (State.reset.link h).rate = .r115200 ∧ (State.reset.link h).linkIn = 3 ∧
    (State.reset.link h).linkOut = 3 ∧ (State.reset.link h).silence = 2000 ∧
    (State.reset.link h).tracker = .search ∧ (State.reset.link h).assembler = .hunt ∧
    (State.reset.link h).judge = .down ∧ (State.reset.link h).queue = [] ∧
    (State.reset.link h).counters = {}) ∧
  (∀ c, (State.reset.calSet c).state = .empty ∧ (State.reset.calSet c).use = 0) ∧
  (State.reset.tide.current = none ∧ State.reset.tide.tableNo = 0 ∧ State.reset.tide.pendingTable = none ∧
    State.reset.tide.scanOwner = none ∧ State.reset.tide.cache = [] ∧ State.reset.tide.lookup = none) ∧
  (∀ n, State.reset.lane n = { state := .unrooted, anchor := none, flag := false }) ∧
  State.reset.walker.pollTimer = none ∧ State.reset.walker.lastServed = 4 ∧
  State.reset.order = { sheet := none, code := 0, stage := .none, status := none, reason := .none }

/-- An engine reset keeps ROOT, EVENT_ENABLE, the configuration just written and a grant in flight, whose answer will
be discarded; every other field is at its power-on value (R182, R185, R189). The model's own choices in it:
notes/assumptions/7.md, 21.md. -/
def Obligations.EngineResetKeepsFourThings : Prop :=
  ∀ (w : Word) (s : State), (Instr.reset w).wellFormed = true →
    exec (.reset w) s = .next { State.reset with
      pending := s.pending
      port := { State.reset.port with
        grant := s.port.grant.map fun g => { g with discard := true, retryCount := 0 } }
      ctrl := { State.reset.ctrl with
        attention := { live := w.getLsbD 4, activeLow := w.getLsbD 5, source := w.extractLsb' 8 4 }
        root := s.ctrl.root, eventEnable := s.ctrl.eventEnable } }

/-- The plain register writes: the attention configuration, ROOT with its three lowest bits cleared, EVENT_ENABLE,
IDENT and STATE, and NOTICE (R184, R185, R141); the four rows that write CONTROL are one register write (R185; the
split into rows is the table's, notes/assumptions/28.md); and what a read of each register but EVENTS returns (R184,
R185, R195; reads are functions of the state, notes/assumptions/24.md). -/
def Obligations.RegisterWritesTakeEffect : Prop :=
  (∀ (w : Word) (s : State),
    exec (.attentionConfiguration w) s = .next { s with ctrl := { s.ctrl with
      attention := { live := w.getLsbD 4, activeLow := w.getLsbD 5, source := w.extractLsb' 8 4 } } } ∧
    exec (.rootWrite w) s = .next { s with ctrl := { s.ctrl with root := w &&& 0xFFFFFFF8 } } ∧
    exec (.registerWrite .eventEnable w) s =
      .next { s with ctrl := { s.ctrl with eventEnable := w.setWidth 10 } } ∧
    exec (.registerWrite .ident w) s = .next s ∧
    exec (.registerWrite .state w) s = .next s ∧
    (s.ctrl.engine = .running → exec (.notice w) s = .next { s with walker := { s.walker with
      lanes := s.walker.lanes.map fun n => { n with flag := true } } }) ∧
    (s.ctrl.engine ≠ .running → exec (.notice w) s = .next s)) ∧
  (∀ (w : Word) (s : State),
    ((Instr.run w).wellFormed = true → exec (.run w) s = .next (s.controlWrite w)) ∧
    ((Instr.stop w).wellFormed = true → exec (.stop w) s = .next (s.controlWrite w)) ∧
    ((Instr.reset w).wellFormed = true → exec (.reset w) s = .next (s.controlWrite w)) ∧
    ((Instr.attentionConfiguration w).wellFormed = true →
      exec (.attentionConfiguration w) s = .next (s.controlWrite w))) ∧
  (∀ s : State, s.readIdent = 0x01043D71 ∧ s.readRoot = s.ctrl.root ∧ s.readNotice = 0 ∧
    s.readEventEnable = s.ctrl.eventEnable.setWidth 32 ∧
    s.readState = packBytes s.ctrl.engine.code s.ctrl.faultReason.code 0 0 ∧
    s.readControl.getLsbD 4 = s.ctrl.attention.live ∧ s.readControl.getLsbD 5 = s.ctrl.attention.activeLow ∧
    s.readControl.extractLsb' 8 4 = s.ctrl.attention.source ∧ s.readControl &&& 0xFFFFF0CF = 0)

/-- RUN in HALTED and in FAULTED enters STARTING: ROOT is captured, the port returns to its start-up values, a refresh
in progress is abandoned, and the directory read is presented unless a grant of the Control Port is still in flight;
such a grant is kept, its retry count with it, and its answer will be discarded.
RUN in STOPPED enters RUNNING, with the look flags set and the poll timer armed. In the other states RUN loads the
configuration alone (R186, R187, R175, R193, R141). The model's own choices in it: notes/assumptions/19.md. -/
def Obligations.RunByEngineState : Prop :=
  ∀ (w : Word) (s : State), (Instr.run w).wellFormed = true →
    ((s.ctrl.engine = .halted ∨ s.ctrl.engine = .faulted) →
    ∃ t, exec (.run w) s = .next t ∧ t.ctrl.engine = .starting ∧ t.ctrl.faultReason = .none ∧
      t.ctrl.directory = s.ctrl.root ∧ t.ctrl.root = s.ctrl.root ∧ t.ctrl.starting = some .directory ∧
      t.ctrl.statusAddress = none ∧ t.ctrl.statusTimer = none ∧ t.ctrl.refreshPending = false ∧
      t.ctrl.refresh = none ∧
      t.ctrl.generation = (if s.ctrl.refresh = none then s.ctrl.generation else s.ctrl.generation + 2) ∧
      t.ctrl.raised = s.ctrl.raised ++ [.engine] ∧ t.ctrl.events = s.ctrl.events ∧
      t.ctrl.eventEnable = s.ctrl.eventEnable ∧ t.ctrl.elapsed = s.ctrl.elapsed ∧
      t.ctrl.offset = s.ctrl.offset ∧ t.ctrl.clockSet = s.ctrl.clockSet ∧
      t.port.sheetWindow = none ∧ t.port.tableWindow = none ∧ t.port.retryLimit = 3 ∧ t.port.grantSize = 4 ∧
      t.port.pointer = s.port.pointer ∧ t.port.lastFault = s.port.lastFault ∧
      t.port.grant = (s.port.grant.map fun g =>
        if g.requester = .controlPort then { g with discard := true } else g) ∧
      ((∃ g, s.port.grant = some g ∧ g.requester = .controlPort) → t.slot .controlPort = none) ∧
      ((∀ g, s.port.grant = some g → g.requester ≠ .controlPort) →
        t.slot .controlPort = some ⟨⟨.read, .none, s.ctrl.root.toNat, 18, []⟩, 0, []⟩) ∧
      (∀ r, r ≠ .controlPort → t.slot r = s.slot r) ∧ unchangedBut [.port, .ctrl] s t) ∧
    (s.ctrl.engine = .stopped → ∃ t, exec (.run w) s = .next t ∧ t.ctrl.engine = .running ∧
      (∀ n, t.lane n = { s.lane n with flag := true }) ∧
      t.walker.pollTimer =
        (if s.walker.pollInterval = 0 then none else some (s.ctrl.elapsed.toNat + s.walker.pollInterval)) ∧
      t.ctrl.raised = s.ctrl.raised ++ [.engine] ∧ unchangedBut [.walker, .ctrl] s t) ∧
    ((s.ctrl.engine = .starting ∨ s.ctrl.engine = .running ∨ s.ctrl.engine = .stopping) →
      exec (.run w) s = .next { s with ctrl := { s.ctrl with
        attention := { live := w.getLsbD 4, activeLow := w.getLsbD 5, source := w.extractLsb' 8 4 } } })

/-- STOP in RUNNING: the flags are cleared, the poll timer is disarmed, the look under way is ended or marked, and the
engine enters STOPPING, or STOPPED where the stop condition holds already, with ENGINE raised for each change; in the
other states STOP loads the configuration alone (R186, R188, R154). The model's own choices in it:
notes/assumptions/15.md. -/
def Obligations.StopFromRunning : Prop :=
  ∀ (w : Word) (s : State), (Instr.stop w).wellFormed = true →
    (s.ctrl.engine = .running → ∃ t, exec (.stop w) s = .next t ∧
      (∀ n, (t.lane n).flag = false) ∧ t.walker.pollTimer = none ∧
      (((∀ h, (s.record h).state = .idle) ∧ s.order.stage = .none ∧
          (∀ k, s.walker.look = some k → k.placed = false)) →
        t.ctrl.engine = .stopped ∧ t.ctrl.raised = s.ctrl.raised ++ [.engine, .engine]) ∧
      (¬ ((∀ h, (s.record h).state = .idle) ∧ s.order.stage = .none ∧
          (∀ k, s.walker.look = some k → k.placed = false)) →
        t.ctrl.engine = .stopping ∧ t.ctrl.raised = s.ctrl.raised ++ [.engine]) ∧
      (s.walker.look = none → t.walker.look = none) ∧
      (∀ k, s.walker.look = some k →
        (k.placed = true ∨ s.slot .sheetWalker ≠ none → t.walker.look = some { k with stopped := true }) ∧
        (k.placed = false ∧ s.slot .sheetWalker = none →
          t.walker.look = none ∧ (t.lane k.lane).state = k.before)) ∧
      unchangedBut [.walker, .ctrl, .cal] s t) ∧
    (s.ctrl.engine ≠ .running →
      exec (.stop w) s = .next { s with ctrl := { s.ctrl with
        attention := { live := w.getLsbD 4, activeLow := w.getLsbD 5, source := w.extractLsb' 8 4 } } })

/-- The event latch (R191): arrivals with the enable set and clear, the write to EVENTS, the order of the two, and the
enables, which neither latch nor clear anything. -/
def Obligations.EventLatchRules : Prop :=
  (∀ (e : Event) (s : State), e ∈ s.ctrl.raised → s.ctrl.eventEnable.getLsbD (eventBit e) = true →
    exec (.eventArrival e) s = .next { s with ctrl := { s.ctrl with
      raised := s.ctrl.raised.erase e, events := s.ctrl.events ||| BitVec.twoPow 10 (eventBit e) } }) ∧
  (∀ (e : Event) (s : State), e ∈ s.ctrl.raised → s.ctrl.eventEnable.getLsbD (eventBit e) = false →
    exec (.eventArrival e) s = .next { s with ctrl := { s.ctrl with raised := s.ctrl.raised.erase e } }) ∧
  (∀ (w : Word) (s : State), ∃ t, exec (.eventsClear w) s = .next t ∧
    t = { s with ctrl := { s.ctrl with events := t.ctrl.events } } ∧
    ∀ i, i < 10 → t.ctrl.events.getLsbD i = (s.ctrl.events.getLsbD i && !w.getLsbD i)) ∧
  (∀ (e f : Event) (s t : State), exec (.eventArrival e) s = .next t → f ≠ e →
    t.ctrl.events.getLsbD (eventBit f) = s.ctrl.events.getLsbD (eventBit f)) ∧
  (∀ (w : Word) (s t : State), exec (.registerWrite .eventEnable w) s = .next t →
    t.ctrl.events = s.ctrl.events) ∧
  (∀ (e : Event) (w : Word) (s t u : State), e ∈ s.ctrl.raised →
    s.ctrl.eventEnable.getLsbD (eventBit e) = true → w.getLsbD (eventBit e) = true →
    (exec (.eventsClear w) s = .next t → exec (.eventArrival e) t = .next u →
      u.ctrl.events.getLsbD (eventBit e) = true) ∧
    (exec (.eventArrival e) s = .next t → exec (.eventsClear w) t = .next u →
      u.ctrl.events.getLsbD (eventBit e) = false)) ∧
  (∀ s : State, s.readEvents = s.ctrl.events.setWidth 32) ∧
  (∀ (w : Word) (s t : State),
    (exec .powerOnReset s = .next t → t.ctrl.events = 0) ∧
    (exec (.reset w) s = .next t → t.ctrl.events = 0))

/-- The attention line (R192): its condition in both modes, its level, and the resets. -/
def Obligations.AttentionLineFollows : Prop :=
  (∀ s : State, s.attentionLevel = xor s.attentionAsserted s.ctrl.attention.activeLow) ∧
  (∀ s : State, s.ctrl.attention.live = false →
    (s.attentionAsserted = true ↔ ∃ i, i < 10 ∧ s.ctrl.events.getLsbD i = true)) ∧
  (∀ s : State, s.ctrl.attention.live = true →
    (∀ n : Head, s.ctrl.attention.source = BitVec.ofNat 4 n.val →
      (s.attentionAsserted = true ↔ (s.headState n).judge = .settled)) ∧
    (∀ n : Head, s.ctrl.attention.source = BitVec.ofNat 4 (4 + n.val) →
      (s.attentionAsserted = true ↔ (s.link n).judge = .up)) ∧
    (s.ctrl.attention.source = 8 →
      (s.attentionAsserted = true ↔ ∃ h, (s.record h).state = .acquiring)) ∧
    (8 < s.ctrl.attention.source.toNat → s.attentionAsserted = false)) ∧
  (∀ s t : State, exec .powerOnReset s = .next t → t.attentionAsserted = false ∧ t.attentionLevel = false) ∧
  (∀ (w : Word) (s t : State), exec (.reset w) s = .next t → t.ctrl.events = 0 ∧
    (∀ h, (t.headState h).judge = .unsettled ∧ (t.link h).judge = .down ∧ (t.record h).state = .idle) ∧
    t.attentionAsserted = false ∧ t.attentionLevel = t.ctrl.attention.activeLow)

/-- The status timer's expiry re-arms it for one interval and requests a refresh: one starts, or the pending flag is
set (R193). The model's own choices in it: notes/assumptions/4.md. -/
def Obligations.StatusTimerRequestsRefresh : Prop :=
  ∀ (s : State) (x : Nat) (a : Word), s.ctrl.statusTimer = some x → x ≤ s.ctrl.elapsed.toNat →
    s.ctrl.statusAddress = some a →
    (s.ctrl.refresh = none → exec .statusTimerExpiry s = .next { s with ctrl := { s.ctrl with
      statusTimer := some (s.ctrl.elapsed.toNat + s.ctrl.statusInterval), refresh := some .odd } }) ∧
    (s.ctrl.refresh ≠ none → exec .statusTimerExpiry s = .next { s with ctrl := { s.ctrl with
      statusTimer := some (s.ctrl.elapsed.toNat + s.ctrl.statusInterval), refreshPending := true } })

/-! ## Memory Port (10) -/

/-- A requester with a free slot presents its next access, which then waits with no word done (R174). The walker: the
reads of a lane's root, of the anchor's next-pointer, of a header and of a request part, and the TAKEN, answer and
REFUSED words (R143, R149, R151, R196). The Order Executor: the order part, the two parts of a calibration record, the
answer word and the state word (R160, R93, R162). The Tide Unit: a lookup's probe or segment, and, with no lookup, the
scan's next segment (R107, R104, R105, R110). The Occupation Controller: the oldest entry of its write queue, a trail
record, the outcome word, the drift write or the state word (R22, R25, R28, R196). The Drift Unit: the drift write and
FINAL (R48). The Control Port: the odd word, the body and the even word of a refresh, and the directory read where it
still waits (R194, R187). A misaligned candidate is presented as a refused access: a WINDOW fault at once, with no
grant, and the lane is HELD (R178, R146). With an access that waits, nothing more is presented. What the words hold of
a trail record, of a drift write and of a result body, field by field, with the codes of dispositions, drift statuses,
outcomes and reasons (R23, R25, R28, R47, R74, R195, R196, 12 "trail record", "station sheet" and "code values"). The
model's own choices in it: that a write is placed at its presentation, notes/assumptions/15.md; that an entry leaves
the write queue at it, 17.md; which accesses this command presents, 19.md; and that the command has no effect at a
full slot, 1.md. -/
def Obligations.AccessesPresented : Prop :=
  (∀ (s : State) (shows : Requester → State → Access → Prop),
    (∀ r u a, shows r u a ↔
      exec (.accessPresent r) s = .next (u.setSlot r (some { access := a, done := 0, data := [] }))) →
    (∀ k : Look, s.slot .sheetWalker = none → s.walker.look = some k →
      (k.stage = .rootRead →
        shows .sheetWalker s ⟨.read, .sheet, s.walker.directory.toNat + 0x14 + 4 * k.lane.val, 1, []⟩) ∧
      (∀ a, k.stage = .nextRead → (s.lane k.lane).anchor = some a →
        shows .sheetWalker s ⟨.read, .sheet, a.toNat + 8, 1, []⟩) ∧
      (k.stage = .headerRead → shows .sheetWalker s ⟨.read, .sheet, k.candidate.toNat, 4, []⟩) ∧
      (k.stage = .requestRead → shows .sheetWalker s ⟨.read, .sheet, k.candidate.toNat + 0x14, 9, []⟩) ∧
      (k.stage = .takenWrite → shows .sheetWalker (s.setLook (some { k with placed := true }))
        ⟨.write, .sheet, k.candidate.toNat, 1, [3]⟩) ∧
      (∀ r, k.stage = .answerWrite r → shows .sheetWalker (s.setLook (some { k with placed := true }))
        ⟨.write, .sheet, k.candidate.toNat + 0x10, 1, [r.code]⟩) ∧
      (k.stage = .refusedWrite → shows .sheetWalker (s.setLook (some { k with placed := true }))
        ⟨.write, .sheet, k.candidate.toNat, 1, [6]⟩) ∧
      (∀ a, k.stage = .misaligned a → ∃ t, exec (.accessPresent .sheetWalker) s = .next t ∧
        t.port.lastFault = some ⟨.sheetWalker, .read, a.toNat, .window⟩ ∧ t.port.grant = s.port.grant ∧
        lookTested k [.memfault] s t ∧ (t.lane k.lane).state = .held ∧ t.walker.look = none ∧
        unchangedBut [.walker, .port, .ctrl, .cal] s t)) ∧
    (∀ a : Word, s.slot .orderExecutor = none → s.order.sheet = some a →
      (s.order.stage = .reading → shows .orderExecutor s ⟨.read, .sheet, a.toNat + 0x14, 9, []⟩) ∧
      (∀ l, s.order.stage = .acting .loading → s.cal.load = some l →
        (l.fixed = [] → shows .orderExecutor s ⟨.read, .table, l.address, 12, []⟩) ∧
        (l.fixed ≠ [] → shows .orderExecutor s
          ⟨.read, .table, l.address + 48, 4 * (wordAt l.fixed 1).toNat + 2, []⟩)) ∧
      (s.order.stage = .answerWord →
        shows .orderExecutor s ⟨.write, .sheet, a.toNat + 0x10, 1, [s.order.reason.code]⟩) ∧
      (s.order.stage = .answerState →
        (s.order.status = some .done → shows .orderExecutor s ⟨.write, .sheet, a.toNat, 1, [7]⟩) ∧
        (s.order.status = some .refused → shows .orderExecutor s ⟨.write, .sheet, a.toNat, 1, [6]⟩))) ∧
    (s.slot .tideUnit = none →
      (∀ (k : Lookup) (u : State), s.tide.lookup = some k →
        u = { s with tide := { s.tide with slot := some .lookup } } →
        (k.phase = .probing → shows .tideUnit u
          ⟨.read, .table, k.table.address + 48 * ((k.lo + k.hi + 1) / 2), 3, []⟩) ∧
        (k.phase = .reading → shows .tideUnit u ⟨.read, .table, k.table.address + 48 * k.lo, 12, []⟩)) ∧
      (∀ p : PendingTable, s.tide.lookup = none → s.tide.pendingTable = some p → p.nextIndex < p.count →
        shows .tideUnit { s with tide := { s.tide with slot := some .scan } }
          ⟨.read, .table, p.address + 48 * p.nextIndex, 12, []⟩)) ∧
    (∀ (e : QueueEntry) (rest : List QueueEntry) (issued : Issued → State),
      s.slot .occupationController = none → s.occ.queue = e :: rest →
      (∀ i, issued i = { s with occ := { s.occ with queue := rest, issued := some i } }) →
      (∀ h n a x, e = .trail h n a x →
        shows .occupationController (issued (.trail h n)) ⟨.write, .sheet, a, 8, trailWords x⟩) ∧
      (∀ h o, e = .result h → (s.record h).outcome = some o →
        shows .occupationController (issued (.resultAnswer h))
          ⟨.write, .sheet, (s.record h).sheet.toNat + 0x10, 1, [o.code]⟩) ∧
      (∀ h a, (s.record h).answer = a →
        (e = .drift h → shows .occupationController (issued (.drift h))
          ⟨.write, .sheet, (s.record h).sheet.toNat + 0xA0, 9,
            driftWords (s.record h).trailOverflow (s.record h).trailFault a.fields⟩) ∧
        (e = .stateWord h → shows .occupationController (issued (.stateWord h))
          ⟨.write, .sheet, (s.record h).sheet.toNat, 1, [if a.provisional then 4 else 5]⟩))) ∧
    (∀ (b : Batch) (bs : List Batch) (e : PoolEntry) (es : List PoolEntry) (l : Landing),
      s.slot .driftUnit = none → s.drift.batches = b :: bs → b.entries = e :: es → e.landing = some l →
      (s.drift.finalizing = some .drift → shows .driftUnit s ⟨.write, .sheet, l.sheet.toNat + 0xA0, 9,
        driftWords l.trailOverflow l.trailFault (finalFields b.kind e)⟩) ∧
      (s.drift.finalizing = some .stateWord →
        shows .driftUnit s ⟨.write, .sheet, l.sheet.toNat, 1, [5]⟩)) ∧
    (s.slot .controlPort = none →
      (∀ a : Word, s.ctrl.starting ≠ some .directory → s.ctrl.statusAddress = some a →
        (s.ctrl.refresh = some .odd →
          shows .controlPort s ⟨.write, .sheet, a.toNat, 1, [s.ctrl.generation + 1]⟩) ∧
        (∀ v, s.ctrl.refresh = some (.body v) →
          shows .controlPort s ⟨.write, .sheet, a.toNat + 4, v.length, v⟩) ∧
        (s.ctrl.refresh = some .even →
          shows .controlPort s ⟨.write, .sheet, a.toNat, 1, [s.ctrl.generation + 2]⟩)) ∧
      (s.ctrl.starting = some .directory →
        (∀ g, s.port.grant = some g → g.discard = true → g.requester ≠ .controlPort) →
        shows .controlPort s ⟨.read, .none, s.ctrl.directory.toNat, 18, []⟩)) ∧
    (∀ r, s.slot r ≠ none → exec (.accessPresent r) s = .next s)) ∧
  (∀ (x : TrailRecord) (w : Nat → Word), (∀ i, w i = wordAt (trailWords x) (i / 4)) →
    (trailWords x).length = 8 ∧ w 0x04 ++ w 0x00 = BitVec.ofNat 64 x.time ∧
    w 0x08 = BitVec.ofInt 32 x.sample.counts ∧ halfOf (w 0x0C) 0 = BitVec.ofInt 16 x.sample.tiltX ∧
    halfOf (w 0x0C) 1 = BitVec.ofInt 16 x.sample.tiltY ∧ w 0x10 = BitVec.ofInt 32 x.sample.temperature ∧
    w 0x14 = x.disposition.code.setWidth 32 ∧ holdsI64 (w 0x18) (w 0x1C) x.corrected) ∧
  (∀ (overflow fault : Bool) (d : DriftFields) (w : Nat → Word),
    (∀ i, w i = wordAt (driftWords overflow fault d) ((i - 0xA0) / 4)) →
    (driftWords overflow fault d).length = 9 ∧
    (∀ i, (w 0xA0).getLsbD i = (i == 0 && overflow || i == 1 && fault || i == 2 && d.valid)) ∧
    w 0xA4 = d.status.code.setWidth 32 ∧ holdsI64 (w 0xA8) (w 0xAC) d.amount ∧
    holdsI64 (w 0xB0) (w 0xB4) d.finalValue ∧ w 0xBC ++ w 0xB8 = BitVec.ofNat 64 d.closeTime ∧
    w 0xC0 = d.generation) ∧
  (∀ (r : OccRecord) (a : Accumulation) (w : Nat → Word) (mean : Int → Int), a = r.acc →
    (∀ i, w i = wordAt (resultWords r) ((i - 0x38) / 4)) →
    (∀ x, mean x = if a.accepted = 0 then 0 else roundDiv x a.accepted) →
    (resultWords r).length = 27 ∧ w 0x38 = BitVec.ofNat 32 a.accepted ∧ w 0x3C = r.rejHead ∧
    w 0x40 = r.rejGate ∧ w 0x44 = r.rejTilt ∧ w 0x48 = r.rejTide ∧ w 0x4C = r.settling ∧ w 0x50 = a.extrap ∧
    halfOf (w 0x54) 0 = BitVec.ofNat 16 r.trailCount ∧ byteOf (w 0x54) 2 = BitVec.ofNat 8 r.intr ∧
    byteOf (w 0x54) 3 = 0 ∧
    w 0x5C ++ w 0x58 = BitVec.ofNat 64 (if a.accepted = 0 then 0 else a.firstTime) ∧
    w 0x64 ++ w 0x60 = BitVec.ofNat 64 (if a.accepted = 0 then 0 else a.lastTime) ∧
    w 0x6C ++ w 0x68 = BitVec.ofNat 64 (if a.accepted = 0 then 0 else (a.firstTime + a.lastTime) / 2) ∧
    holdsI64 (w 0x70) (w 0x74) (mean a.sum) ∧
    holdsI64 (w 0x78) (w 0x7C) (if a.accepted = 0 then 0 else a.min) ∧
    holdsI64 (w 0x80) (w 0x84) (if a.accepted = 0 then 0 else a.max) ∧
    holdsI64 (w 0x88) (w 0x8C) (mean a.tiltSum) ∧ holdsI64 (w 0x90) (w 0x94) (mean a.tempSum) ∧
    holdsI64 (w 0x98) (w 0x9C) (mean a.tideSum) ∧
    (∀ i, (w 0xA0).getLsbD i = (i == 0 && r.trailOverflow || i == 1 && r.trailFault))) ∧
  ([.waitId, .settling, .accepted, .rejHead, .rejGate, .rejTilt, .rejTide].map Disposition.code =
      [1, 2, 3, 4, 5, 6, 7] ∧
    [.none, .pending, .applied, .base, .zeroSpan, .expired, .aborted, .noLoop, .staleLoop, .poolFull, .notUsable,
      .withdrawn].map DriftStatus.code = [0, 1, 2, 3, 4, 5, 6, 7, 8, 9, 10, 11] ∧
    [.complete, .timed, .sparse, .unsettled, .interrupted, .linkLost, .cancelled, .headReset,
      .headMismatch].map OccOutcome.code = [1, 2, 3, 4, 5, 6, 7, 8, 9] ∧
    [.none, .window, .kind, .head, .role, .loopId, .loopState, .calEmpty, .headMismatch, .clockUnset, .limits,
      .memory, .unknownOrder, .range, .clockInUse, .headBusy, .setBusy, .calCheck, .calOrder, .tableOrder,
      .tableSpan, .alreadyEnded, .notFound].map Reason.code =
        [0, 1, 2, 3, 4, 5, 6, 7, 8, 9, 10, 11, 12, 13, 14, 15, 16, 17, 18, 19, 20, 21, 22])

/-- The arbiter serves the first waiting requester after the pointer. Its grant is issued where it lies inside its
window; outside, it is a WINDOW fault with no grant, so no grant is issued outside the window of its access (R176,
R177, R178, R180). -/
def Obligations.GrantServesRoundOrder : Prop :=
  (∀ (s : State) (r : Requester) (x : Transfer) (j : Fin 6), s.port.grant = none → s.slot r = some x →
    r.number = s.port.pointer + 1 + j →
    (∀ q : Requester, ∀ i : Fin 6, i < j → q.number = s.port.pointer + 1 + i → s.slot q = none) →
    ∀ g : Grant, g = ⟨r, x.access.direction, x.access.address + 4 * x.done,
        min (x.access.count - x.done) s.port.grantSize,
        (x.access.words.drop x.done).take (min (x.access.count - x.done) s.port.grantSize), 0, false⟩ →
    (s.grantPasses x.access.window g = true →
      exec .grant s = .next { s with port := { s.port with pointer := r.number, grant := some g } }) ∧
    (s.grantPasses x.access.window g = false →
      ∃ t, exec .grant s = .next t ∧ t.port.grant = none ∧ t.port.pointer = r.number ∧ t.slot r = none ∧
        t.port.lastFault = some ⟨r, g.direction, g.address, .window⟩ ∧ .memfault ∈ t.ctrl.raised)) ∧
  (∀ (s t : State) (g : Grant), s.port.grant = none → exec .grant s = .next t → t.port.grant = some g →
    ∃ x, s.slot g.requester = some x ∧
      match x.access.window with
      | .none => True
      | .sheet => ∃ w, s.port.sheetWindow = some w ∧ w.base ≤ g.address ∧ g.address + 4 * g.count ≤ w.limit
      | .table => ∃ w, s.port.tableWindow = some w ∧ w.base ≤ g.address ∧ g.address + 4 * g.count ≤ w.limit)

/-- A bus answer that does not end the access: OKAY with words left, RETRY below the limit, and the answer of a
discarded grant, at which a directory read that waited for it is presented (R187); and an ERROR, and a RETRY at the
limit, end the access of any requester with the fault recorded and MEMFAULT raised (R177, R179, R180, R182). The
model's own choices in it: notes/assumptions/5.md, 19.md. -/
def Obligations.BusAnswersEndOrGoOn : Prop :=
  (∀ (s : State) (g : Grant), s.port.grant = some g →
    (∀ (x : Transfer) (data : List Word), g.discard = false → s.slot g.requester = some x →
      (g.direction = .write ∨ data.length = g.count) → x.done + g.count < x.access.count →
      exec (.busAnswer (.okay data)) s = .next ((s.setGrant none).setSlot g.requester (some
        { x with done := x.done + g.count,
                 data := if g.direction = .read then x.data ++ data else x.data }))) ∧
    (g.discard = false → g.retryCount < s.port.retryLimit →
      exec (.busAnswer .retry) s = .next { s with port := { s.port with
        grant := some { g with retryCount := g.retryCount + 1 } } }) ∧
    (∀ (a : BusAnswer) (u : State), g.discard = true → u = { s with port := { s.port with grant := none } } →
      (s.ctrl.starting ≠ some .directory ∨ s.slot .controlPort ≠ none → exec (.busAnswer a) s = .next u) ∧
      (s.ctrl.starting = some .directory → s.slot .controlPort = none →
        exec (.busAnswer a) s = .next (u.setSlot .controlPort
          (some ⟨⟨.read, .none, s.ctrl.directory.toNat, 18, []⟩, 0, []⟩))))) ∧
  (∀ (s : State) (g : Grant), s.port.grant = some g → g.discard = false →
    (∃ t, exec (.busAnswer .error) s = .next t ∧ t.port.grant = none ∧ t.slot g.requester = none ∧
      t.port.lastFault = some ⟨g.requester, g.direction, g.address, .busError⟩ ∧
      .memfault ∈ t.ctrl.raised) ∧
    (s.port.retryLimit ≤ g.retryCount →
      ∃ t, exec (.busAnswer .retry) s = .next t ∧ t.port.grant = none ∧ t.slot g.requester = none ∧
        t.port.lastFault = some ⟨g.requester, g.direction, g.address, .retryExhausted⟩ ∧
        .memfault ∈ t.ctrl.raised))

/-- The last OKAY of an occupation's write: a trail write counts, the outcome word is followed at once by the result
body and that by the join, the drift write by the state word, and the state word makes the record IDLE, raises SHEET
and reports a PROVISIONAL sheet as landed. A fault of any of the three kinds on a trail write ends the trail, one on the
result write marks the join failed, and one on the drift write or the state word makes the record IDLE (R23, R24, R26 to
R28, R180, R196). A record that becomes IDLE has its BUSY lane flagged in RUNNING, and in STOPPING the stop condition
tested (R141, R188). The model's own choices in it: notes/assumptions/17.md, 19.md. -/
def Obligations.OccupationWritesAnswered : Prop :=
  (∀ (s u : State) (data ws : List Word) (h : Head), completes .occupationController data ws s →
    u = { s.freed .occupationController with occ := { s.occ with issued := none } } →
    (∀ n, s.occ.issued = some (.trail h n) →
      ((s.record h).takeNo = n → exec (.busAnswer (.okay data)) s =
        .next (u.updRecord h fun r => { r with trailCount := r.trailCount + 1 })) ∧
      ((s.record h).takeNo ≠ n → exec (.busAnswer (.okay data)) s = .next u)) ∧
    (s.occ.issued = some (.resultAnswer h) →
      ∃ t, exec (.busAnswer (.okay data)) s = .next t ∧ t.occ = { s.occ with issued := some (.resultBody h) } ∧
        t.slot .occupationController = some ⟨⟨.write, .sheet, (s.record h).sheet.toNat + 0x38, 27,
          resultWords (s.record h)⟩, 0, []⟩ ∧ unchangedBut [.occ, .port] s t) ∧
    (s.occ.issued = some (.resultBody h) → exec (.busAnswer (.okay data)) s =
      .next (u.updRecord h fun r => { r with step := some .join })) ∧
    (s.occ.issued = some (.drift h) → exec (.busAnswer (.okay data)) s =
      .next ((u.updRecord h fun r => { r with step := some .state }).enqueue (.stateWord h))) ∧
    (s.occ.issued = some (.stateWord h) →
      ∃ t, exec (.busAnswer (.okay data)) s = .next t ∧
        t.record h = { s.record h with state := .idle, step := none } ∧
        t.occ.issued = none ∧ t.occ.queue = s.occ.queue ∧ (∀ i, i ≠ h → t.record i = s.record i) ∧
        ((s.record h).answer.provisional = true →
          t.drift = { s.drift with reports := s.drift.reports.set h (some (.landing
            ⟨(s.record h).sheet, (s.record h).trailOverflow, (s.record h).trailFault⟩)) }) ∧
        ((s.record h).answer.provisional = false → t.drift = s.drift) ∧
        stopTested [.sheet] s t ∧ busyLaneFlagged h.castSucc s t ∧
        unchangedBut [.occ, .port, .drift, .walker, .ctrl] s t)) ∧
  (∀ (s : State) (k : FaultKind) (c : Instr) (h : Head), faults .occupationController k c s →
    ∃ t, exec c s = .next t ∧ t.port.grant = none ∧ t.slot .occupationController = none ∧
      (∃ d a, t.port.lastFault = some ⟨.occupationController, d, a, k⟩) ∧
      (∀ n, s.occ.issued = some (.trail h n) → t.ctrl = { s.ctrl with raised := s.ctrl.raised ++ [.memfault] } ∧
        ((s.record h).takeNo = n → t.record h = { s.record h with trailFault := true } ∧
          ∀ n a x, QueueEntry.trail h n a x ∉ t.occ.queue) ∧
        ((s.record h).takeNo ≠ n → t.occ = { s.occ with issued := none }) ∧
        unchangedBut [.occ, .port, .ctrl] s t) ∧
      (s.occ.issued = some (.resultAnswer h) ∨ s.occ.issued = some (.resultBody h) →
        t.record h = { s.record h with step := some .join, joinFailed := true } ∧ t.occ.queue = s.occ.queue ∧
        t.ctrl = { s.ctrl with raised := s.ctrl.raised ++ [.memfault] } ∧ unchangedBut [.occ, .port, .ctrl] s t) ∧
      (s.occ.issued = some (.drift h) ∨ s.occ.issued = some (.stateWord h) →
        t.record h = { s.record h with state := .idle, step := none } ∧ t.occ.queue = s.occ.queue ∧
        ((s.record h).answer.provisional = true →
          t.drift = { s.drift with reports := s.drift.reports.set h (some .failure) }) ∧
        ((s.record h).answer.provisional = false → t.drift = s.drift) ∧
        stopTested [.memfault] s t ∧ busyLaneFlagged h.castSucc s t ∧
        unchangedBut [.occ, .port, .drift, .walker, .ctrl] s t))

/-! ## Sensor links (07) -/

/-- The run of sixteen well-formed cells enters TRACK, with the cell timing of those cells; an interval that is not
well-formed returns the run to 0 (R118). A cell is present within one quarter of a cell of the place its timing
predicts, its bit is read near mid-cell, and the tracker realigns on a boundary it saw. A lone missed cell is counted,
its bit is still delivered and the timing runs on; a second one in a row is a timing loss, which returns the tracker
to SEARCH, counts, discards a frame in assembly and gives the link judge a bad frame event (R116, R119, R120, R124,
R129 to R131). The model's own choices in it: notes/assumptions/6.md, 10.md, 12.md. -/
def Obligations.TrackerLocksAndLosesTiming : Prop :=
  (∀ (h : Head) (vs : List Interval) (s : State), (s.link h).tracker = .search →
    (∀ v, vs.getLast? = some v → (∀ v ∈ vs, intervalWellFormed (s.link h).rate v = true) →
      (s.link h).lockRun + vs.length = 16 →
      exec (.trackerLock h vs) s = .next (s.updLink h fun l =>
        { l with tracker := .track, lockRun := 0, missRun := 0, incoming := [],
                 timing := v.finish * l.rate.bps })) ∧
    (∀ v, intervalWellFormed (s.link h).rate v = false →
      exec (.trackerLock h [v]) s = .next (s.updLink h fun l => { l with lockRun := 0 }))) ∧
  (∀ (r : Rate) (v : Interval), intervalWellFormed r v = true ↔
    (4 * (((v.finish : Int) - v.start) * r.bps - 1000000000).natAbs ≤ 1000000000 ∧
      (v.inner = [] ∨ ∃ m, v.inner = [m] ∧
        4 * (((m : Int) - v.start) * r.bps - 500000000).natAbs ≤ 1000000000))) ∧
  (∀ (r : Rate) (p : Nat) (c : TrackCell),
    (cellPresent r p c = true ↔ ∃ b, c.boundary = some b ∧ 4 * ((b * r.bps : Int) - p).natAbs ≤ 1000000000) ∧
    (∀ b, c.boundary = some b → cellPresent r p c = true → nextPlace r p c = b * r.bps + 1000000000 ∧
      (cellBit r p c = true ↔ ∃ m, c.mid = some m ∧
        4 * (((m : Int) - b) * r.bps - 500000000).natAbs ≤ 1000000000)) ∧
    (cellPresent r p c = false → nextPlace r p c = p + 1000000000 ∧
      (cellBit r p c = true ↔ ∃ m, c.mid = some m ∧
        4 * ((m * r.bps : Int) - p - 500000000).natAbs ≤ 1000000000))) ∧
  (∀ (h : Head) (cells : List TrackCell) (cell : TrackCell) (s : State) (u l : LinkReceiver),
    (s.link h).tracker = .track → cellsPresent (s.link h).rate (s.link h).timing cells = true →
    (cells = [] → (s.link h).missRun = 0) →
    u = { s.link h with missRun := 0, incoming := [],
                        timing := cells.foldl (nextPlace (s.link h).rate) (s.link h).timing } →
    cellPresent u.rate u.timing cell = false →
    absorbBits u ((s.link h).incoming ++ cellBits (s.link h).rate (s.link h).timing cells) = some l →
    exec (.missedCell h cells cell) s = .next (s.updLink h fun _ =>
      { l with missRun := 1, timing := u.timing + 1000000000, incoming := [cellBit u.rate u.timing cell],
               counters := { l.counters with missedCells := l.counters.missedCells + 1 } })) ∧
  (∀ (h : Head) (cell : TrackCell) (s : State), (s.link h).tracker = .track → (s.link h).missRun = 1 →
    cellPresent (s.link h).rate (s.link h).timing cell = false →
    absorbBits (s.link h) (s.link h).incoming ≠ none →
    ∃ t, exec (.timingLoss h cell) s = .next t ∧ (t.link h).tracker = .search ∧
      (t.link h).lockRun = 0 ∧ (t.link h).missRun = 0 ∧
      (t.link h).counters.timingLosses = (s.link h).counters.timingLosses + 1 ∧
      (t.link h).counters.missedCells = (s.link h).counters.missedCells + 1 ∧
      (t.link h).counters.aborted = (if (s.link h).assembler = .hunt then (s.link h).counters.aborted
        else (s.link h).counters.aborted + 1) ∧
      badFrameTaken h s t)

/-- The start mark, at the end of the bits delivered in HUNT, enters HEADER (R121). The model's own choices in it:
notes/assumptions/10.md, 11.md, 12.md. -/
def Obligations.StartMarkEntersHeader : Prop :=
  (∀ (h : Head) (cells : List TrackCell) (w : List Bool) (s : State), (s.link h).tracker = .track →
    (s.link h).assembler = .hunt → cellsPresent (s.link h).rate (s.link h).timing cells = true →
    huntBits (s.link h).hunt ((s.link h).incoming ++ cellBits (s.link h).rate (s.link h).timing cells) =
      (w, some []) →
    exec (.startMark h cells) s = .next (s.updLink h fun l =>
      { l with assembler := .header, hunt := [], header := [], bits := [], incoming := [],
               missRun := if cells = [] then l.missRun else 0,
               timing := cells.foldl (nextPlace l.rate) l.timing })) ∧
  huntBits [] (bytesAsBits [0xB4, 0x2D]) = ([], some [])

/-- The fifth header byte: a header that passes the four checks enters PAYLOAD; the first check that fails is counted,
the assembler returns to HUNT, and the link judge takes a bad frame event (R122, R124, R129 to R131). The model's own
choices in it: notes/assumptions/6.md, 10.md, 12.md. -/
def Obligations.HeaderIsChecked : Prop :=
  ∀ (h : Head) (cells : List TrackCell) (bs : List Bool) (hd : List Byte) (s : State),
    (s.link h).tracker = .track → (s.link h).assembler = .header →
    cellsPresent (s.link h).rate (s.link h).timing cells = true →
    bs = (s.link h).bits ++
      ((s.link h).incoming ++ cellBits (s.link h).rate (s.link h).timing cells) →
    bs.length = 40 → hd = bytesOfBits bs →
    (∀ k, headerSum hd = 0xFF → frameKind (hd.getD 0 0) = some k → hd.getD 1 0 = BitVec.ofNat 8 h.val →
      lengthAllowed k (hd.getD 3 0).toNat = true →
      exec (.headerComplete h cells) s = .next (s.updLink h fun l =>
        { l with assembler := .payload, header := hd, bits := [], hunt := [], incoming := [],
                 missRun := if cells = [] then l.missRun else 0,
                 timing := cells.foldl (nextPlace l.rate) l.timing })) ∧
    (headerSum hd ≠ 0xFF → ∃ t, exec (.headerComplete h cells) s = .next t ∧ badFrameTaken h s t ∧
      (t.link h).counters = { (s.link h).counters with headerErr := (s.link h).counters.headerErr + 1 }) ∧
    (headerSum hd = 0xFF → frameKind (hd.getD 0 0) = none →
      ∃ t, exec (.headerComplete h cells) s = .next t ∧ badFrameTaken h s t ∧
        (t.link h).counters = { (s.link h).counters with kindErr := (s.link h).counters.kindErr + 1 }) ∧
    (∀ k, headerSum hd = 0xFF → frameKind (hd.getD 0 0) = some k → hd.getD 1 0 ≠ BitVec.ofNat 8 h.val →
      ∃ t, exec (.headerComplete h cells) s = .next t ∧ badFrameTaken h s t ∧
        (t.link h).counters = { (s.link h).counters with channelErr := (s.link h).counters.channelErr + 1 }) ∧
    (∀ k, headerSum hd = 0xFF → frameKind (hd.getD 0 0) = some k → hd.getD 1 0 = BitVec.ofNat 8 h.val →
      lengthAllowed k (hd.getD 3 0).toNat = false →
      ∃ t, exec (.headerComplete h cells) s = .next t ∧ badFrameTaken h s t ∧
        (t.link h).counters = { (s.link h).counters with lengthErr := (s.link h).counters.lengthErr + 1 })

/-- The second CRC byte. With equal CRCs and the judge UP, or brought UP by this frame, the frame is stamped, counted,
sequenced and joins the tail of the queue, or is dropped at a full queue; the frame that brings the judge UP arms the
silence timer, raises LINK and presents the transition; with the judge still DOWN the frame is counted, good_run
rises, and the frame goes unqueued. With unequal CRCs it is counted CRC_ERR and the link judge takes a bad frame event
(R123 to R125, R128 to R132). The model's own choices in it: notes/assumptions/6.md, 10.md, 12.md. -/
def Obligations.FrameEndQueuesGoodFrames : Prop :=
  ∀ (h : Head) (cells : List TrackCell) (bs : List Bool) (bytes payload : List Byte) (k : FrameKind)
    (s : State) (f : Frame) (gaps : BitVec 32), (s.link h).tracker = .track → (s.link h).assembler = .payload →
    cellsPresent (s.link h).rate (s.link h).timing cells = true →
    bs = (s.link h).bits ++
      ((s.link h).incoming ++ cellBits (s.link h).rate (s.link h).timing cells) →
    bs.length = 8 * (((s.link h).header.getD 3 0).toNat + 2) → bytes = bytesOfBits bs →
    payload = bytes.take ((s.link h).header.getD 3 0).toNat →
    frameKind ((s.link h).header.getD 0 0) = some k →
    f = ⟨k, (s.link h).header.getD 2 0, payload, s.ctrl.elapsed, s.ctrl.elapsed + s.ctrl.offset⟩ →
    gaps = (match (s.link h).expected with
      | none => (s.link h).counters.gaps
      | some e => (s.link h).counters.gaps + (f.sequence - e).setWidth 32) →
    (crc16 ((s.link h).header ++ payload) =
        bytes.getD (((s.link h).header.getD 3 0).toNat + 1) 0 ++
          bytes.getD ((s.link h).header.getD 3 0).toNat 0 →
      (((s.link h).judge = .up ∨ (s.link h).linkIn ≤ (s.link h).goodRun + 1) →
        ∃ t, exec (.frameEnd h cells) s = .next t ∧ (t.link h).assembler = .hunt ∧
        (t.link h).judge = .up ∧ (t.link h).badRun = 0 ∧
        (t.link h).silenceTimer = some (s.ctrl.elapsed.toNat + (s.link h).silence) ∧
        (t.link h).expected = some (f.sequence + 1) ∧
        (t.link h).counters.good = (s.link h).counters.good + 1 ∧ (t.link h).counters.gaps = gaps ∧
        ((s.link h).queue.length < 8 → (t.link h).queue = (s.link h).queue ++ [f] ∧
          (t.link h).counters.overflows = (s.link h).counters.overflows) ∧
        (8 ≤ (s.link h).queue.length → (t.link h).queue = (s.link h).queue ∧
          (t.link h).counters.overflows = (s.link h).counters.overflows + 1) ∧
        ((s.link h).judge = .up → t.occ = s.occ ∧ t.ctrl.raised = s.ctrl.raised ++
          (if (s.link h).queue.length < 8 then [] else [.overflow])) ∧
        ((s.link h).judge = .down → (t.link h).goodRun = 0 ∧
          t.inbox h = { s.inbox h with linkMsgs := (s.inbox h).linkMsgs ++ [.up] } ∧
          (∀ i, t.record i = s.record i) ∧ t.ctrl.raised = s.ctrl.raised ++ [.link] ++
            (if (s.link h).queue.length < 8 then [] else [.overflow])) ∧
        (∀ i, i ≠ h → t.link i = s.link i) ∧ t.ctrl = { s.ctrl with raised := t.ctrl.raised } ∧
        unchangedBut [.links, .occ, .ctrl] s t) ∧
      ((s.link h).judge = .down → (s.link h).goodRun + 1 < (s.link h).linkIn →
        ∃ t, exec (.frameEnd h cells) s = .next t ∧ (t.link h).assembler = .hunt ∧
          (t.link h).judge = .down ∧ (t.link h).goodRun = (s.link h).goodRun + 1 ∧
          (t.link h).silenceTimer = (s.link h).silenceTimer ∧ (t.link h).expected = (s.link h).expected ∧
          (t.link h).queue = (s.link h).queue ∧ (t.link h).counters = { (s.link h).counters with
            good := (s.link h).counters.good + 1, unqueued := (s.link h).counters.unqueued + 1 } ∧
          unchangedBut [.links] s t)) ∧
    (crc16 ((s.link h).header ++ payload) ≠
        bytes.getD (((s.link h).header.getD 3 0).toNat + 1) 0 ++
          bytes.getD ((s.link h).header.getD 3 0).toNat 0 →
      ∃ t, exec (.frameEnd h cells) s = .next t ∧ badFrameTaken h s t ∧
        (t.link h).counters = { (s.link h).counters with crcErr := (s.link h).counters.crcErr + 1 })

/-- The silence timer's expiry takes the link DOWN: runs 0, timer disarmed, expected unset, the queue kept, LINK
raised, and the transition presented to the Correction Unit and to the record (R130, R131). The model's own choices in
it: notes/assumptions/4.md, 6.md. -/
def Obligations.SilenceTakesLinkDown : Prop :=
  ∀ (h : Head) (x : Nat) (s : State), (s.link h).judge = .up → (s.link h).silenceTimer = some x →
    x ≤ s.ctrl.elapsed.toNat →
    ∃ t, exec (.silenceExpiry h) s = .next t ∧
      t.link h = { s.link h with judge := .down, goodRun := 0, badRun := 0, silenceTimer := none,
                                 expected := none } ∧
      (∀ j, j ≠ h → t.link j = s.link j) ∧
      t.ctrl = { s.ctrl with raised := s.ctrl.raised ++ [.link] } ∧
      t.corr = { s.corr with downMsgs := s.corr.downMsgs.set h (s.corr.downMsgs[h] + 1) } ∧
      t.inbox h = { s.inbox h with linkMsgs := (s.inbox h).linkMsgs ++ [.down] } ∧
      (∀ j, t.record j = s.record j) ∧ unchangedBut [.links, .corr, .occ, .ctrl] s t

/-- Every step keeps each frame queue at 8 frames or fewer (R132). -/
def Obligations.FrameQueuesStayBounded : Prop := keptByStep framesBounded

/-! ## Sample intake, correction and tide (03, 04, 06) -/

/-- The arbiter takes the oldest frame of the first non-empty queue from the pointer on. A SAMPLE frame begins with
the occupation context of that moment; an IDENT frame sets the identity and is reported (R55 to R57). The model's own
choices in it: notes/assumptions/6.md. -/
def Obligations.FrameChoiceServesRoundOrder : Prop :=
  ∀ (s : State) (h : Head) (f : Frame) (rest : List Frame) (j : Head), s.corr.evaluator = none →
    h = s.corr.pointer + j → (∀ i, i < j → (s.link (s.corr.pointer + i)).queue = []) →
    (s.link h).queue = f :: rest →
    (f.kind = .sample → samplesOf f.payload ≠ [] → ∃ t, exec .frameChoice s = .next t ∧
      t.corr = { s.corr with pointer := h + 1, evaluator := (some
        { head := h, frame := f, remaining := samplesOf f.payload, phase := .between,
          context := (if (s.record h).state = .identifying ∨ (s.record h).state = .settling ∨
              (s.record h).state = .acquiring then
            some ⟨(s.record h).takeNo, (s.record h).calSet, (s.record h).options,
              (s.calSet (s.record h).calSet).contents⟩ else none) }) } ∧
      t.link h = { s.link h with queue := rest } ∧ (∀ i, i ≠ h → t.link i = s.link i) ∧
      unchangedBut [.links, .corr] s t) ∧
    (f.kind = .ident → ∃ t, exec .frameChoice s = .next t ∧ t.corr.pointer = h + 1 ∧
      t.corr.evaluator = none ∧
      t.headState h = { s.headState h with known := true, serial := payloadWord f.payload 0,
                                           kind := f.payload.getD 4 0, rate := f.payload.getD 5 0 } ∧
      (∀ i, i ≠ h → t.headState i = s.headState i) ∧
      t.inbox h = { s.inbox h with identityMsgs := (s.inbox h).identityMsgs ++
        [⟨payloadWord f.payload 0,
          (s.headState h).known && decide ((s.headState h).serial ≠ payloadWord f.payload 0)⟩] } ∧
      (∀ i, t.record i = s.record i) ∧ t.link h = { s.link h with queue := rest } ∧
      unchangedBut [.links, .corr, .occ] s t)

/-- The judging event of a sample: in the OFF part it vanishes, flagged it goes to its delivery unjudged, outside one of
the three gates, of counts, of tilt against the level reference and of temperature (R62), likewise, and otherwise the
settle judge takes it and a change of the judge is raised and presented. A sample of a
frame without an occupation context has a latency of 0, meets no gate, is judged unless it is flagged, and ends at this
event (R58 to R64). The model's own choices in it: notes/assumptions/6.md. -/
def Obligations.JudgingEventScreensAndJudges : Prop :=
  ∀ (s : State) (e : Evaluator) (x : Sample) (rest : List Sample) (hd : HeadState) (c : Context) (time : Nat)
    (ended : Option Evaluator) (phase : Nat) (passes : Prop),
    s.corr.evaluator = some e → e.phase = .between → e.remaining = x :: rest → hd = s.headState e.head →
    time = e.frame.surveyStamp.toNat - c.cal.latency - x.offset →
    ended = (if rest = [] then none else some { e with remaining := rest, phase := .between }) →
    phase = (if hd.off = 0 then hd.phase else (hd.phase + 1) % (hd.on + hd.off)) →
    (passes ↔ (c.cal.cntMin ≤ x.counts ∧ x.counts ≤ c.cal.cntMax) ∧
      ((x.tiltX - hd.levelX).natAbs ≤ c.cal.tiltMax ∧ (x.tiltY - hd.levelY).natAbs ≤ c.cal.tiltMax) ∧
      (c.cal.tMin ≤ x.temperature ∧ x.temperature ≤ c.cal.tMax)) →
    (x.flagged = true ↔ x.flags.getLsbD 0 = true ∨ x.flags.getLsbD 1 = true) ∧
    (hd.off ≠ 0 → hd.on ≤ hd.phase →
      exec .judgingEvent s = .next ((s.updHead e.head fun y => { y with phase := phase }).setEvaluator ended)) ∧
    ((hd.off = 0 ∨ hd.phase < hd.on) → e.context = none → x.flagged = true →
      exec .judgingEvent s = .next ((s.updHead e.head fun y => { y with phase := phase }).setEvaluator ended)) ∧
    ((hd.off = 0 ∨ hd.phase < hd.on) → e.context = none → x.flagged = false →
      ∃ t, exec .judgingEvent s = .next t ∧
        t.headState e.head = { judgeSample hd x with phase := phase } ∧
        (∀ i, i ≠ e.head → t.headState i = s.headState i) ∧ t.corr.evaluator = ended ∧
        ((judgeSample hd x).judge = hd.judge → t.ctrl = s.ctrl ∧ t.occ = s.occ) ∧
        ((judgeSample hd x).judge ≠ hd.judge →
          t.ctrl = { s.ctrl with raised := s.ctrl.raised ++ [.settle] } ∧
          t.inbox e.head = { s.inbox e.head with
            judgeMsgs := (s.inbox e.head).judgeMsgs ++ [(judgeSample hd x).judge] }) ∧
        unchangedBut [.corr, .occ, .ctrl] s t) ∧
    (latencyOf none = 0 ∧ latencyOf (some c) = c.cal.latency) ∧
    ((hd.off = 0 ∨ hd.phase < hd.on) → e.context = some c → x.flagged = true →
      exec .judgingEvent s = .next ((s.updHead e.head fun y => { y with phase := phase }).setEvaluator
        (some { e with remaining := rest, phase := .judged x time .flagged false }))) ∧
    ((hd.off = 0 ∨ hd.phase < hd.on) → e.context = some c → x.flagged = false → ¬ passes →
      exec .judgingEvent s = .next ((s.updHead e.head fun y => { y with phase := phase }).setEvaluator
        (some { e with remaining := rest, phase := .judged x time .gateFailed false }))) ∧
    ((hd.off = 0 ∨ hd.phase < hd.on) → e.context = some c → x.flagged = false → passes →
      ∃ t, exec .judgingEvent s = .next t ∧
        t.headState e.head = { judgeSample hd x with phase := phase } ∧
        (∀ i, i ≠ e.head → t.headState i = s.headState i) ∧
        t.corr.evaluator = some { e with
          remaining := rest
          phase := .judged x time (.judged (isLevel hd x)) (decide ((judgeSample hd x).judge ≠ hd.judge)) } ∧
        ((judgeSample hd x).judge = hd.judge → t.ctrl = s.ctrl ∧ t.occ = s.occ) ∧
        ((judgeSample hd x).judge ≠ hd.judge →
          t.ctrl = { s.ctrl with raised := s.ctrl.raised ++ [.settle] } ∧
          t.inbox e.head = { s.inbox e.head with
            judgeMsgs := (s.inbox e.head).judgeMsgs ++ [(judgeSample hd x).judge] }) ∧
        unchangedBut [.corr, .occ, .ctrl] s t)

/-- The settle judge on one judged sample, row by row (R64), and the two tests it meets: both tilt offsets against the
level reference within TOL_IN for steady and TOL_OUT for level, and, with TEMP_STEP not 0 and a previous temperature,
the step within TEMP_STEP (R63). -/
def Obligations.SettleJudgeTable : Prop :=
  ∀ (x : HeadState) (smp : Sample) (dx dy : Int) (stepPasses : Prop),
    dx = smp.tiltX - x.levelX → dy = smp.tiltY - x.levelY →
    (stepPasses ↔ (x.tempStep ≠ 0 → ∀ p, x.prevTemp = some p → (smp.temperature - p).natAbs ≤ x.tempStep)) →
    (isSteady x smp = true ↔ dx.natAbs ≤ x.tolIn ∧ dy.natAbs ≤ x.tolIn ∧ stepPasses) ∧
    (isLevel x smp = true ↔ dx.natAbs ≤ x.tolOut ∧ dy.natAbs ≤ x.tolOut ∧ stepPasses) ∧
    (judgeSample x smp).prevTemp = some smp.temperature ∧
    (x.judge = .unsettled → isSteady x smp = true → x.inRun + 1 = x.runIn →
      (judgeSample x smp).judge = .settled ∧ (judgeSample x smp).inRun = 0 ∧
        (judgeSample x smp).outRun = 0) ∧
    (x.judge = .unsettled → isSteady x smp = true → x.inRun + 1 ≠ x.runIn →
      (judgeSample x smp).judge = .unsettled ∧ (judgeSample x smp).inRun = x.inRun + 1) ∧
    (x.judge = .unsettled → isSteady x smp = false →
      (judgeSample x smp).judge = .unsettled ∧ (judgeSample x smp).inRun = 0) ∧
    (x.judge = .settled → isLevel x smp = true →
      (judgeSample x smp).judge = .settled ∧ (judgeSample x smp).outRun = 0) ∧
    (x.judge = .settled → isLevel x smp = false → x.outRun + 1 = x.runOut →
      (judgeSample x smp).judge = .unsettled ∧ (judgeSample x smp).inRun = 0 ∧
        (judgeSample x smp).outRun = 0) ∧
    (x.judge = .settled → isLevel x smp = false → x.outRun + 1 ≠ x.runOut →
      (judgeSample x smp).judge = .settled ∧ (judgeSample x smp).outRun = x.outRun + 1) ∧
    (x.tolIn ≤ x.tolOut → isSteady x smp = true → isLevel x smp = true)

/-- The delivery of a judged sample, row by row (R65); a candidate's reading and terms are formed, a disabled term as
0 with the extrapolation flag clear, the tilt term from the offsets against the level reference, and with tide enabled
it waits for the Tide Unit (R66, R72, R75 to R78, R80); the corrected value is the sum of the reading and the three
terms, bounded (R74, R81). It is formed once the transition that the sample caused has been taken at the record (R58),
and a sample whose record no longer holds its take goes no further (R65). The model's own choices in it:
notes/assumptions/6.md. -/
def Obligations.DeliveryFollowsTheTable : Prop :=
  ∀ (s : State) (e : Evaluator) (c : Context) (x : Sample) (time : Nat) (cls : SampleClass) (caused : Bool)
    (r : OccRecord) (goes : EvalPhase → State) (hd : HeadState) (dx dy : Int) (k : Candidate),
    s.corr.evaluator = some e → e.context = some c →
    e.phase = .judged x time cls caused → r = s.record e.head →
    (∀ p, goes p = s.setEvaluator (some { e with phase := p })) → hd = s.headState e.head →
    dx = x.tiltX - hd.levelX → dy = x.tiltY - hd.levelY →
    k = { reading := clamp64 (roundDiv (x.counts * c.cal.scale) 65536)
          tiltTerm := if c.options.tilt then roundDiv (c.cal.tiltK * (dx ^ 2 + dy ^ 2)) 1000 else 0
          tempTerm := if c.options.temp then (tempTermOf c.cal.points x.temperature).1 else 0
          extrap := if c.options.temp then (tempTermOf c.cal.points x.temperature).2 else false
          tideTerm := 0, corrected := 0 } →
    (∀ tide : Int, k.finish tide =
      { k with tideTerm := tide, corrected := clamp64 (k.reading + k.tiltTerm + k.tempTerm + tide) }) ∧
    (caused = true → (s.inbox e.head).judgeMsgs ≠ [] → exec .deliveryForming s = .next s) ∧
    ((caused = false ∨ (s.inbox e.head).judgeMsgs = []) →
      (r.state = .idle ∨ r.state = .writing ∨ r.takeNo ≠ c.takeNo) → exec .deliveryForming s =
        .next (s.setEvaluator (if e.remaining = [] then none else some { e with phase := .between }))) ∧
    ((caused = false ∨ (s.inbox e.head).judgeMsgs = []) →
    (r.state = .identifying ∨ r.state = .settling ∨ r.state = .acquiring) → r.takeNo = c.takeNo →
    (cls = .flagged → exec .deliveryForming s = .next (goes (.delivering x time .rejHead))) ∧
    (cls = .gateFailed → exec .deliveryForming s = .next (goes (.delivering x time .rejGate))) ∧
    (∀ level, cls = .judged level → r.state = .identifying →
      exec .deliveryForming s = .next (goes (.delivering x time .waitId))) ∧
    (∀ level, cls = .judged level → r.state = .settling →
      exec .deliveryForming s = .next (goes (.delivering x time .settling))) ∧
    (∀ level, cls = .judged level → r.state = .acquiring → (s.headState e.head).judge = .unsettled →
      exec .deliveryForming s = .next (goes (.delivering x time .settling))) ∧
    (cls = .judged false → r.state = .acquiring → (s.headState e.head).judge = .settled →
      exec .deliveryForming s = .next (goes (.delivering x time .rejTilt))) ∧
    (cls = .judged true → r.state = .acquiring → (s.headState e.head).judge = .settled →
      c.options.tide = true →
      exec .deliveryForming s =
        .next (goes (.awaitingTide x time k))) ∧
    (cls = .judged true → r.state = .acquiring → (s.headState e.head).judge = .settled →
      c.options.tide = false →
      exec .deliveryForming s =
        .next (goes (.crediting x time
          { k with corrected := clamp64 (k.reading + k.tiltTerm + k.tempTerm) }))))

/-- Every division of the correction arithmetic, of the means and of the drift amount has a positive divisor and
rounds once, to the nearest integer, ties away from zero, with the sign of the numerator; the mid time rounds down
(R73). A result out of the signed 64-bit range is the nearer bound (R74). The temperature term is that of the interval
that holds the temperature, on every interval of an ascending curve; at the last point and outside the curve it is
held, and outside the extrapolation flag is set (R77, R78). -/
def Obligations.RoundingIsToNearestTiesAway : Prop :=
  (∀ (n : Int) (q : Nat), 0 < q →
    (roundDiv n q).natAbs = (2 * n.natAbs + q) / (2 * q) ∧
    (0 ≤ n → 0 ≤ roundDiv n q) ∧ (n ≤ 0 → roundDiv n q ≤ 0) ∧
    roundDiv (-n) q = -roundDiv n q ∧
    2 * (roundDiv n q * q - n).natAbs ≤ q ∧
    (2 * (roundDiv n q * q - n).natAbs = q → n.natAbs < (roundDiv n q * q).natAbs)) ∧
  (roundDiv 7 2 = 4 ∧ roundDiv (-7) 2 = -4 ∧ roundDiv 9 4 = 2 ∧ roundDiv (-9) 4 = -2 ∧
    roundDiv 1534639 1000 = 1535 ∧ roundDiv (-112255) 100 = -1123) ∧
  (∀ x : Int, clamp64 x = max (-(2 ^ 63)) (min x (2 ^ 63 - 1))) ∧
  (∀ counts scale : Int, readingOf counts scale = clamp64 (roundDiv (counts * scale) 65536)) ∧
  (∀ (k : Nat) (dx dy : Int), tiltTermOf k dx dy = roundDiv (k * (dx ^ 2 + dy ^ 2)) 1000) ∧
  (∀ (before rest : List (Int × Int)) (p q : Int × Int) (x : Int),
    ((before ++ p :: q :: rest).map Prod.fst).Pairwise (· < ·) → p.1 ≤ x → x < q.1 →
    0 < (q.1 - p.1).toNat ∧ tempTermOf (before ++ p :: q :: rest) x =
      (p.2 + roundDiv ((q.2 - p.2) * (x - p.1)) (q.1 - p.1).toNat, false)) ∧
  (∀ (before : List (Int × Int)) (p : Int × Int) (x : Int),
    ((before ++ [p]).map Prod.fst).Pairwise (· < ·) → p.1 ≤ x →
    tempTermOf (before ++ [p]) x = (p.2, decide (p.1 < x))) ∧
  (∀ (p : Int × Int) (rest : List (Int × Int)) (x : Int), x < p.1 → tempTermOf (p :: rest) x = (p.2, true)) ∧
  (∀ (g : Segment) (x : Nat), g.start ≤ x → x < g.start + g.span →
    0 < g.span ^ 3 ∧ tideTermOf g x = clamp64 (roundDiv (tideNumerator g (x - g.start)) (g.span ^ 3))) ∧
  (∀ (sum : Int) (n : Nat), 0 < n → meanOf sum n = roundDiv sum n) ∧
  (∀ a : Accumulation, 0 < a.accepted → midTimeOf a = (a.firstTime + a.lastTime) / 2) ∧
  (∀ (e : PoolEntry) (d x v ref : Int) (t0 close : Nat) (g : BitVec 32), 0 < x →
    0 < x.toNat ∧ (finalFields (.closed d x v t0 ref close g) e).amount =
      roundDiv (d * ((e.midTime : Int) - t0)) x.toNat)

/-- A tide request: a gap with no table or outside it, the cached segment's term, or a search over the whole table
(R103, R66, R82). Which of two cached segments that hold the time is the hit, the least recently used, is the model's
choice, and the clause of the cached segment rests on it: notes/assumptions/33.md. -/
def Obligations.TideLookupDecides : Prop :=
  ∀ (s : State) (e : Evaluator) (x : Sample) (time : Nat) (k : Candidate), s.corr.evaluator = some e →
    e.phase = .awaitingTide x time k → s.tide.lookup = none →
    (∀ p, s.tide.pendingTable = some p → p.nextIndex ≠ p.count) →
    ((s.tide.current = none ∨
        ∃ tab, s.tide.current = some tab ∧ (time < tab.firstStart ∨ tab.endTime ≤ time) ∧
          ∀ y ∈ s.tide.cache, y.segment.holds time = false) →
      exec .tideLookup s =
        .next ((s.setEvaluator (some { e with phase := .delivering x time .rejTide })).raise .tide)) ∧
    (∀ tab y, s.tide.current = some tab → s.tide.cache.find? (fun z => z.segment.holds time) = some y →
      exec .tideLookup s = .next
        ((s.setCache (s.tide.cache.filter (fun z => z.index ≠ y.index) ++ [y])).setEvaluator
          (some { e with phase := .crediting x time (k.finish (tideTermOf y.segment time)) }))) ∧
    (∀ tab, s.tide.current = some tab → (∀ y ∈ s.tide.cache, y.segment.holds time = false) →
      tab.firstStart ≤ time → time < tab.endTime →
      exec .tideLookup s = .next (s.setLookup (some
        { time := time, table := tab, tableNo := s.tide.tableNo, lo := 0, hi := tab.count - 1,
          phase := if tab.count - 1 = 0 then .reading else .probing })))

/-- A link loss taken at the Correction Unit clears the judge; a judge that was SETTLED raises SETTLE and presents the
transition (R68). The model's own choices in it: notes/assumptions/6.md, 9.md. -/
def Obligations.LinkLossClearsTheJudge : Prop :=
  ∀ (h : Head) (s : State), s.corr.downMsgs[h] ≠ 0 →
    (∀ e, s.corr.evaluator = some e → e.phase = .between) →
    ∃ t, exec (.linkDownAtCorrection h) s = .next t ∧
      t.headState h = { s.headState h with judge := .unsettled, inRun := 0, outRun := 0, prevTemp := none } ∧
      (∀ i, i ≠ h → t.headState i = s.headState i) ∧
      t.corr.downMsgs = s.corr.downMsgs.set h (s.corr.downMsgs[h] - 1) ∧
      t.corr.evaluator = s.corr.evaluator ∧ t.corr.pointer = s.corr.pointer ∧
      ((s.headState h).judge = .settled →
        t.ctrl = { s.ctrl with raised := s.ctrl.raised ++ [.settle] } ∧
        t.inbox h = { s.inbox h with judgeMsgs := (s.inbox h).judgeMsgs ++ [.unsettled] } ∧
        unchangedBut [.corr, .occ, .ctrl] s t) ∧
      ((s.headState h).judge = .unsettled → unchangedBut [.corr] s t)

/-- Every step keeps the segment cache at four segments or fewer, no two of one index (R102). -/
def Obligations.SegmentCacheKeepsItsShape : Prop := keptByStep cacheShaped

/-! ## Station occupations (01) -/

/-- An identity report at an IDENTIFYING record moves it on or ends it HEAD_MISMATCH; a change ends a record in
SETTLING or ACQUIRING; any other report leaves the record (R6, R7, R21). The model's own choices in it:
notes/assumptions/6.md. -/
def Obligations.IdentityReportTaken : Prop :=
  ∀ (h : Head) (m : IdentityMsg) (rest : List IdentityMsg) (s : State),
    (s.inbox h).identityMsgs = m :: rest →
    ((s.record h).state = .identifying →
      m.serial = (s.calSet (s.record h).calSet).contents.serial → (s.headState h).judge = .unsettled →
      ∃ t, exec (.identityReport h) s = .next t ∧ t.record h = { s.record h with state := .settling } ∧
        t.inbox h = { s.inbox h with identityMsgs := rest } ∧ unchangedBut [.occ] s t) ∧
    ((s.record h).state = .identifying →
      m.serial = (s.calSet (s.record h).calSet).contents.serial → (s.headState h).judge = .settled →
      ∃ t, exec (.identityReport h) s = .next t ∧ (t.record h).state = .acquiring ∧
        (t.record h).settleTimer = none ∧ unchangedBut [.occ] s t) ∧
    (((s.record h).state = .identifying ∧
          m.serial ≠ (s.calSet (s.record h).calSet).contents.serial) ∨
        (((s.record h).state = .settling ∨ (s.record h).state = .acquiring) ∧ m.change = true) →
      ∃ t, exec (.identityReport h) s = .next t ∧ (t.record h).state = .writing ∧
        (t.record h).outcome = some .headMismatch ∧ t.occ.queue = s.occ.queue ++ [.result h] ∧
        (t.calSet (s.record h).calSet).use = (s.calSet (s.record h).calSet).use - 1 ∧
        unchangedBut [.occ, .cal] s t) ∧
    ((((s.record h).state = .settling ∨ (s.record h).state = .acquiring) ∧ m.change = false) ∨
        (s.record h).state = .writing ∨ (s.record h).state = .idle →
      exec (.identityReport h) s = .next (s.updInbox h fun b => { b with identityMsgs := rest }))

/-- A judge transition to SETTLED moves a SETTLING record to ACQUIRING: the settle timer is disarmed, and the acquire
timer is armed at the first entry alone. One to UNSETTLED is an interruption in ACQUIRING: it raises intr, and beyond
max_intr it ends the occupation; otherwise the record returns to SETTLING with the settle timer armed afresh and,
under RESTART, the accumulation cleared. Elsewhere neither has an effect on the record (R8 to R10). The model's own
choices in it: notes/assumptions/6.md, 29.md. -/
def Obligations.JudgeTransitionsAtTheRecord : Prop :=
  ∀ (h : Head) (rest : List SettleJudge) (s : State),
    ((s.inbox h).judgeMsgs = .settled :: rest →
      ((s.record h).state = .settling →
        exec (.judgeTransitionSettled h) s =
          .next ((s.updInbox h fun b => { b with judgeMsgs := rest }).updRecord h fun r =>
            { r with state := .acquiring, settleTimer := none, acqSeen := true,
                     acquireTimer := if r.acqSeen then r.acquireTimer
                       else some (s.ctrl.elapsed.toNat + r.acquireLimit * 1000) })) ∧
      ((s.record h).state ≠ .settling →
        exec (.judgeTransitionSettled h) s = .next (s.updInbox h fun b => { b with judgeMsgs := rest }))) ∧
    ((s.inbox h).judgeMsgs = .unsettled :: rest →
      ((s.record h).state = .acquiring → (s.record h).maxIntr < (s.record h).intr + 1 →
        ∃ t, exec (.interruption h) s = .next t ∧ (t.record h).state = .writing ∧
          (t.record h).outcome = some .interrupted ∧ (t.record h).intr = (s.record h).intr + 1 ∧
          t.occ.queue = s.occ.queue ++ [.result h] ∧ unchangedBut [.occ, .cal] s t) ∧
      ((s.record h).state = .acquiring → (s.record h).intr + 1 ≤ (s.record h).maxIntr →
        (s.headState h).judge = .unsettled →
        ∃ t, exec (.interruption h) s = .next t ∧
          t.record h = { s.record h with
            state := .settling, intr := (s.record h).intr + 1
            settleTimer := some (s.ctrl.elapsed.toNat + (s.record h).settleLimit * 1000)
            acc := if (s.record h).options.restart then {} else (s.record h).acc } ∧
          t.inbox h = { s.inbox h with judgeMsgs := rest } ∧ unchangedBut [.occ] s t) ∧
      ((s.record h).state ≠ .acquiring →
        exec (.interruption h) s = .next (s.updInbox h fun b => { b with judgeMsgs := rest })))

/-- A disposition delivered to its take is counted, REJ_HEAD, REJ_GATE, REJ_TILT, REJ_TIDE and SETTLING each by its
own counter and WAIT_ID by none (R11; ACCEPTED travels with a credit alone), and trailed; it is held back while 16
trail records wait, it is counted without a record past trail_cap or after a trail fault, and one that does not find
its take is dropped (R11, R13, R22, R23, R67). The model's own choices in it: notes/assumptions/17.md, 18.md. -/
def Obligations.DispositionIsCountedAndTrailed : Prop :=
  ∀ (s : State) (e : Evaluator) (c : Context) (x : Sample) (time : Nat) (d : Disposition) (r counted : OccRecord),
    s.corr.evaluator = some e → e.context = some c → e.phase = .delivering x time d →
    r = s.record e.head →
    counted = (match d with
      | .rejHead => { r with rejHead := r.rejHead + 1 }
      | .rejGate => { r with rejGate := r.rejGate + 1 }
      | .rejTilt => { r with rejTilt := r.rejTilt + 1 }
      | .rejTide => { r with rejTide := r.rejTide + 1 }
      | .settling => { r with settling := r.settling + 1 }
      | .waitId => r
      | .accepted => r) →
    ((r.state = .identifying ∨ r.state = .settling ∨ r.state = .acquiring) → r.takeNo = c.takeNo →
      r.trailFault = false → r.trailNext < r.trailCap → s.queuedTrails < 16 →
      ∃ t, exec .disposition s = .next t ∧
        t.record e.head = { counted with trailNext := r.trailNext + 1 } ∧
        t.occ.queue = s.occ.queue ++
          [.trail e.head r.takeNo (r.trailBase + 32 * r.trailNext) ⟨time, x, d, 0⟩] ∧
        t.corr.evaluator = (if e.remaining = [] then none else some { e with phase := .between }) ∧
        unchangedBut [.occ, .corr] s t) ∧
    ((r.state = .identifying ∨ r.state = .settling ∨ r.state = .acquiring) → r.takeNo = c.takeNo →
      r.trailFault = false → r.trailNext < r.trailCap → 16 ≤ s.queuedTrails →
      exec .disposition s = .next s) ∧
    ((r.state = .identifying ∨ r.state = .settling ∨ r.state = .acquiring) → r.takeNo = c.takeNo →
      (r.trailFault = true ∨ r.trailCap ≤ r.trailNext) →
      ∃ t, exec .disposition s = .next t ∧
        t.record e.head = { counted with
          trailOverflow := if r.trailFault then r.trailOverflow else true } ∧
        t.occ.queue = s.occ.queue ∧
        t.corr.evaluator = (if e.remaining = [] then none else some { e with phase := .between }) ∧
        unchangedBut [.occ, .corr] s t) ∧
    ((r.state = .idle ∨ r.state = .writing ∨ r.takeNo ≠ c.takeNo) →
      exec .disposition s =
        .next (s.setEvaluator (if e.remaining = [] then none else some { e with phase := .between })))

/-- A credit adds to the sums and moves the bounds and times, and is trailed as ACCEPTED with the corrected value; the
credit that brings accepted to target ends the occupation COMPLETE; one that would be trailed is held back while 16
trail records wait; one that does not find its take in ACQUIRING is dropped (R12, R13, R16, R21 to R23). The model's
own choices in it: notes/assumptions/17.md, 18.md. -/
def Obligations.CreditAccumulates : Prop :=
  ∀ (s : State) (e : Evaluator) (c : Context) (x : Sample) (time : Nat) (k : Candidate) (r : OccRecord),
    s.corr.evaluator = some e → e.context = some c → e.phase = .crediting x time k → r = s.record e.head →
    (r.state = .acquiring → r.takeNo = c.takeNo →
      (r.trailFault = true ∨ r.trailCap ≤ r.trailNext ∨ s.queuedTrails < 16) →
      ∃ t, exec .credit s = .next t ∧
        (t.record e.head).acc.sum = r.acc.sum + k.corrected ∧
        (t.record e.head).acc.accepted = r.acc.accepted + 1 ∧
        (t.record e.head).acc.tiltSum = r.acc.tiltSum + k.tiltTerm ∧
        (t.record e.head).acc.tempSum = r.acc.tempSum + k.tempTerm ∧
        (t.record e.head).acc.tideSum = r.acc.tideSum + k.tideTerm ∧
        (t.record e.head).acc.extrap = (if k.extrap then r.acc.extrap + 1 else r.acc.extrap) ∧
        (t.record e.head).acc.lastTime = time ∧
        (r.acc.accepted = 0 → (t.record e.head).acc.firstTime = time ∧
          (t.record e.head).acc.min = k.corrected ∧ (t.record e.head).acc.max = k.corrected) ∧
        (r.acc.accepted ≠ 0 → (t.record e.head).acc.firstTime = r.acc.firstTime ∧
          (t.record e.head).acc.min = min r.acc.min k.corrected ∧
          (t.record e.head).acc.max = max r.acc.max k.corrected) ∧
        (r.acc.accepted + 1 = r.target → (t.record e.head).state = .writing ∧
          (t.record e.head).outcome = some .complete ∧
          (t.calSet r.calSet).use = (s.calSet r.calSet).use - 1) ∧
        (r.acc.accepted + 1 ≠ r.target → (t.record e.head).state = .acquiring ∧ t.cal = s.cal) ∧
        t.corr.evaluator = (if e.remaining = [] then none else some { e with phase := .between }) ∧
        (r.trailFault = false → r.trailNext < r.trailCap →
          (t.record e.head).trailNext = r.trailNext + 1 ∧ (t.record e.head).trailOverflow = r.trailOverflow ∧
          t.occ.queue = s.occ.queue ++
            [.trail e.head r.takeNo (r.trailBase + 32 * r.trailNext) ⟨time, x, .accepted, k.corrected⟩] ++
            (if r.acc.accepted + 1 = r.target then [.result e.head] else [])) ∧
        ((r.trailFault = true ∨ r.trailCap ≤ r.trailNext) →
          (t.record e.head).trailNext = r.trailNext ∧
          (t.record e.head).trailOverflow = (if r.trailFault then r.trailOverflow else true) ∧
          t.occ.queue = s.occ.queue ++ (if r.acc.accepted + 1 = r.target then [.result e.head] else [])) ∧
        (∀ i, i ≠ e.head → t.record i = s.record i) ∧ unchangedBut [.occ, .cal, .corr] s t) ∧
    (r.state = .acquiring → r.takeNo = c.takeNo → r.trailFault = false → r.trailNext < r.trailCap →
      16 ≤ s.queuedTrails → exec .credit s = .next s) ∧
    ((r.state ≠ .acquiring ∨ r.takeNo ≠ c.takeNo) →
      exec .credit s =
        .next (s.setEvaluator (if e.remaining = [] then none else some { e with phase := .between })))

/-- The expiries of the settle, acquire and grace timers end the occupation with their outcomes: WRITING, the timers
disarmed, the claim on the set returned and the result write queued (R14, R15, R17, R21, R91). The model's own choices
in it: notes/assumptions/4.md. -/
def Obligations.TimerExpiriesEndOccupations : Prop :=
  ∀ (h : Head) (s : State) (n : Nat) (ended : OccOutcome → State),
    (∀ o, ended o = ((s.updRecord h fun r => { r with
        state := .writing, step := some .result, outcome := some o, settleTimer := none,
        acquireTimer := none, graceTimer := none, joinFailed := false }).updCalSet (s.record h).calSet
          fun k => { k with use := k.use - 1 }).enqueue (.result h)) → n ≤ s.ctrl.elapsed.toNat →
    ((s.record h).settleTimer = some n →
      ((s.record h).state = .identifying ∨ (s.record h).state = .settling) →
      exec (.settleExpiry h) s = .next (ended .unsettled)) ∧
    ((s.record h).acquireTimer = some n →
      ((s.record h).state = .settling ∨ (s.record h).state = .acquiring) →
      exec (.acquireExpiry h) s = .next (ended
        (if (s.record h).minGood ≤ (s.record h).acc.accepted then .timed else .sparse))) ∧
    ((s.record h).graceTimer = some n →
      ((s.record h).state = .identifying ∨ (s.record h).state = .settling ∨
        (s.record h).state = .acquiring) →
      exec (.graceExpiry h) s = .next (ended .linkLost))

/-- A link transition at the record: DOWN arms the grace timer, or ends the occupation LINK_LOST with grace 0; UP
disarms it; in IDLE and WRITING neither reaches the record (R17). That the grace is measured from the record's own
event, and not from the link judge's change, is the model's choice, and the clause that arms the timer rests on it:
notes/assumptions/32.md. The model's other choices in it: notes/assumptions/6.md. -/
def Obligations.LinkTransitionsAtTheRecord : Prop :=
  ∀ (h : Head) (j : LinkJudge) (rest : List LinkJudge) (s u : State), (s.inbox h).linkMsgs = j :: rest →
    u = (s.updInbox h fun b => { b with linkMsgs := rest }) →
    (((s.record h).state = .identifying ∨ (s.record h).state = .settling ∨
        (s.record h).state = .acquiring) →
      (j = .down → (s.record h).linkGrace ≠ 0 → exec (.linkTransitionAtRecord h) s =
        .next (u.updRecord h fun r =>
          { r with graceTimer := some (s.ctrl.elapsed.toNat + r.linkGrace * 1000) })) ∧
      (j = .down → (s.record h).linkGrace = 0 → ∃ t, exec (.linkTransitionAtRecord h) s = .next t ∧
        (t.record h).state = .writing ∧ (t.record h).outcome = some .linkLost ∧
        t.occ.queue = s.occ.queue ++ [.result h] ∧ unchangedBut [.occ, .cal] s t) ∧
      (j = .up → exec (.linkTransitionAtRecord h) s =
        .next (u.updRecord h fun r => { r with graceTimer := none }))) ∧
    (((s.record h).state = .idle ∨ (s.record h).state = .writing) →
      exec (.linkTransitionAtRecord h) s = .next u)

/-- Every step keeps trail_next within trail_cap and the write queue at 16 trail records or fewer (R22, R23). The
model's own choices in it: notes/assumptions/17.md. -/
def Obligations.TrailsStayBounded : Prop := keptByStep trailsBounded

/-! ## Survey loops and drift (02) -/

/-- A STATION join, row by row; a failed one changes no loop and makes its record IDLE, which the Sheet Walker and the
Control Port are told (R26, R36, R37, R141, R188). The model's
own choices in it: notes/assumptions/8.md, 27.md. -/
def Obligations.StationJoinTable : Prop :=
  ∀ (h : Head) (s : State) (r : OccRecord) (answered : State → DriftAnswer → State), r = s.record h →
    r.state = .writing → r.step = some .join → s.reportAt h = none → r.role = .station →
    (r.joinFailed = true → ∃ t, exec (.join h) s = .next t ∧
      t.record h = { r with state := .idle, step := none } ∧ t.occ.queue = s.occ.queue ∧
      (∀ i, i ≠ h → t.record i = s.record i) ∧ stopTested [] s t ∧ busyLaneFlagged h.castSucc s t ∧
      unchangedBut [.occ, .walker, .ctrl] s t) ∧
    (r.joinFailed = false → (∀ u a, answered u a = (u.updRecord h fun x =>
        { x with answer := a, step := some .drift }).enqueue (.drift h)) →
      (r.loopId = none →
        exec (.join h) s = .next (answered s ⟨false, ⟨.none, 0, 0, false, 0, r.loopGen⟩⟩)) ∧
      (∀ l o, r.loopId = some l → r.outcome = some o →
        (o ≠ .complete → o ≠ .timed →
          exec (.join h) s = .next (answered s ⟨false, ⟨.notUsable, 0, 0, false, 0, r.loopGen⟩⟩)) ∧
        ((o = .complete ∨ o = .timed) → (s.loopAt l).generation ≠ r.loopGen →
          exec (.join h) s = .next (answered s ⟨false, ⟨.staleLoop, 0, 0, false, 0, r.loopGen⟩⟩)) ∧
        ((o = .complete ∨ o = .timed) → (s.loopAt l).generation = r.loopGen → (s.loopAt l).state = .free →
          exec (.join h) s = .next (answered s ⟨false, ⟨.noLoop, 0, 0, false, 0, r.loopGen⟩⟩)) ∧
        ((o = .complete ∨ o = .timed) → (s.loopAt l).generation = r.loopGen → (s.loopAt l).state ≠ .free →
          64 ≤ s.poolUsed →
          exec (.join h) s =
            .next (answered (s.raise .pool) ⟨false, ⟨.poolFull, 0, 0, false, 0, r.loopGen⟩⟩)) ∧
        ((o = .complete ∨ o = .timed) → (s.loopAt l).generation = r.loopGen → (s.loopAt l).state ≠ .free →
          s.poolUsed < 64 →
          exec (.join h) s = .next (answered
            (s.updLoop l fun x => { x with pending := x.pending ++
              [⟨.reserved, h, none, midTimeOf r.acc, meanOf r.acc.sum r.acc.accepted, r.loopGen⟩] })
            ⟨true, ⟨.pending, 0, 0, false, 0, r.loopGen⟩⟩))))

/-- The join of a BASE_OPEN: a usable one anchors its loop and arms the span timer; one that is not frees the loop and
detaches its list as NO_LOOP, and a failed one makes its record IDLE too, which the Sheet Walker and the Control Port
are told (R26, R39, R40, R45, R49, R53, R141, R188). The model's
own choices in it: notes/assumptions/8.md, 22.md. -/
def Obligations.BaseOpenCompletes : Prop :=
  ∀ (h : Head) (l : LoopId) (s : State) (r : OccRecord) (o : OccOutcome), r = s.record h →
    r.state = .writing → r.step = some .join → s.reportAt h = none →
    r.role = .baseOpen → r.loopId = some l → r.outcome = some o →
    (r.joinFailed = false → (o = .complete ∨ o = .timed) → ∃ t, exec (.join h) s = .next t ∧
      t.loopAt l = { s.loopAt l with
        state := .opened, openValue := meanOf r.acc.sum r.acc.accepted, openTime := midTimeOf r.acc
        baseRef := if r.options.baseRefPresent then r.baseRef else 0
        openElapsed := s.ctrl.elapsed.toNat
        spanTimer := some (s.ctrl.elapsed.toNat + s.drift.spanLimit * 60000) } ∧
      (∀ i, i ≠ l → t.loopAt i = s.loopAt i) ∧ t.drift.batches = s.drift.batches ∧
      (t.record h).answer = ⟨false, ⟨.base, 0, if r.options.baseRefPresent then r.baseRef else 0, true,
        0, r.loopGen⟩⟩ ∧ (t.record h).step = some .drift ∧ t.occ.queue = s.occ.queue ++ [.drift h] ∧
      t.ctrl = { s.ctrl with raised := s.ctrl.raised ++ [.loop] } ∧
      unchangedBut [.occ, .drift, .ctrl] s t) ∧
    ((r.joinFailed = true ∨ (o ≠ .complete ∧ o ≠ .timed)) → ∃ t, exec (.join h) s = .next t ∧
      t.loopAt l = { generation := (s.loopAt l).generation } ∧
      (∀ i, i ≠ l → t.loopAt i = s.loopAt i) ∧
      t.drift.batches = (if (s.loopAt l).pending = [] then s.drift.batches
        else s.drift.batches ++ [⟨.noLoop, (s.loopAt l).pending⟩]) ∧
      (r.joinFailed = false →
        (t.record h).answer = ⟨false, ⟨.notUsable, 0, 0, false, 0, r.loopGen⟩⟩ ∧
        t.ctrl = { s.ctrl with raised := s.ctrl.raised ++ [.loop] } ∧ t.walker = s.walker) ∧
      (r.joinFailed = true → t.record h = { r with state := .idle, step := none } ∧
        stopTested [.loop] s t ∧ busyLaneFlagged h.castSucc s t) ∧
      unchangedBut [.occ, .drift, .walker, .ctrl] s t)

/-- The join of a BASE_CLOSE or BASE_TURN: a usable one detaches the list as a CLOSED batch with D and T, and frees or
turns the loop; one that is not reopens the loop, or expires it if its span has passed, and a failed one makes its
record IDLE too, which the Sheet Walker and the Control Port are told (R26, R41 to R43, R49, R141, R188; that an
expiry time reached counts as passed is the model's reading, notes/assumptions/25.md). The model's own choices in it:
notes/assumptions/8.md, 25.md. -/
def Obligations.BaseCloseCompletes : Prop :=
  ∀ (h : Head) (l : LoopId) (s : State) (r : OccRecord) (o : OccOutcome) (x : Loop), r = s.record h →
    r.state = .writing → r.step = some .join → s.reportAt h = none →
    (r.role = .baseClose ∨ r.role = .baseTurn) → r.loopId = some l → r.outcome = some o → x = s.loopAt l →
    (r.joinFailed = false → (o = .complete ∨ o = .timed) → ∃ t, exec (.join h) s = .next t ∧
      (r.role = .baseClose → t.loopAt l = { generation := x.generation }) ∧
      (r.role = .baseTurn → t.loopAt l =
        { state := .opened, generation := x.generation + 1,
          openValue := meanOf r.acc.sum r.acc.accepted, openTime := midTimeOf r.acc, baseRef := x.baseRef,
          openElapsed := s.ctrl.elapsed.toNat,
          spanTimer := some (s.ctrl.elapsed.toNat + s.drift.spanLimit * 60000), pending := [] }) ∧
      t.drift.batches = (if x.pending = [] then s.drift.batches
        else s.drift.batches ++ [⟨.closed (meanOf r.acc.sum r.acc.accepted - x.openValue)
          ((midTimeOf r.acc : Int) - x.openTime) x.openValue x.openTime x.baseRef (midTimeOf r.acc)
          x.generation, x.pending⟩]) ∧
      (t.record h).answer = ⟨false, ⟨.base, meanOf r.acc.sum r.acc.accepted - x.openValue, x.baseRef,
        true, midTimeOf r.acc, r.loopGen⟩⟩ ∧
      t.ctrl = { s.ctrl with raised := s.ctrl.raised ++ [.loop] } ∧
      (∀ i, i ≠ l → t.loopAt i = s.loopAt i) ∧ unchangedBut [.occ, .drift, .ctrl] s t) ∧
    ((r.joinFailed = true ∨ (o ≠ .complete ∧ o ≠ .timed)) → ∃ t, exec (.join h) s = .next t ∧
      (s.ctrl.elapsed.toNat < x.openElapsed + s.drift.spanLimit * 60000 →
        t.loopAt l = { x with state := .opened,
                              spanTimer := some (x.openElapsed + s.drift.spanLimit * 60000) } ∧
        t.drift.batches = s.drift.batches ∧
        (r.joinFailed = false → t.ctrl = { s.ctrl with raised := s.ctrl.raised ++ [.loop] })) ∧
      (x.openElapsed + s.drift.spanLimit * 60000 ≤ s.ctrl.elapsed.toNat →
        t.loopAt l = { generation := x.generation } ∧
        t.drift.batches = (if x.pending = [] then s.drift.batches
          else s.drift.batches ++ [⟨.expired x.openValue x.baseRef, x.pending⟩]) ∧
        (r.joinFailed = false → t.ctrl = { s.ctrl with raised := s.ctrl.raised ++ [.loop, .loop] })) ∧
      (r.joinFailed = false →
        (t.record h).answer = ⟨false, ⟨.notUsable, 0, 0, false, 0, r.loopGen⟩⟩ ∧ t.walker = s.walker) ∧
      (r.joinFailed = true → t.record h = { r with state := .idle, step := none } ∧
        stopTested (if s.ctrl.elapsed.toNat < x.openElapsed + s.drift.spanLimit * 60000 then [.loop]
          else [.loop, .loop]) s t ∧ busyLaneFlagged h.castSucc s t) ∧
      (∀ i, i ≠ l → t.loopAt i = s.loopAt i) ∧ unchangedBut [.occ, .drift, .walker, .ctrl] s t)

/-- A landing report makes the head's RESERVED entries HELD, and a failure report frees them, on every pending list
and in every batch, and no other entry changes (R38). The model's own choices in it: notes/assumptions/27.md. -/
def Obligations.ReportsReachThePool : Prop :=
  ∀ (h : Head) (s : State),
    (∀ a, s.reportAt h = some (.landing a) → ∃ t, exec (.landingReport h) s = .next t ∧
      t.reportAt h = none ∧
      (∀ l, t.loopAt l = { s.loopAt l with pending := ((s.loopAt l).pending.map fun e =>
        if e.phase = .reserved ∧ e.head = h then { e with phase := .held, landing := some a } else e) }) ∧
      t.drift.batches = (s.drift.batches.map fun b => { b with entries := (b.entries.map fun e =>
        if e.phase = .reserved ∧ e.head = h then { e with phase := .held, landing := some a } else e) }) ∧
      unchangedBut [.drift] s t) ∧
    (s.reportAt h = some .failure → ∃ t, exec (.failureReport h) s = .next t ∧
      t.reportAt h = none ∧
      (∀ l, t.loopAt l = { s.loopAt l with pending := ((s.loopAt l).pending.filter fun e =>
        decide (¬ (e.phase = .reserved ∧ e.head = h))) }) ∧
      t.drift.batches = ((s.drift.batches.map fun b => { b with entries := (b.entries.filter fun e =>
        decide (¬ (e.phase = .reserved ∧ e.head = h))) }).filter fun b => !b.entries.isEmpty) ∧
      unchangedBut [.drift] s t)

/-- The span timer's expiry detaches the list of an OPEN loop as EXPIRED and frees the loop; ABORT_LOOP does the same
with an ABORTED batch and its order is done; ABORT_LOOP of a loop that is not OPEN is refused LOOP_STATE (R50, R51,
R45, R53). The model's own choices in it: notes/assumptions/4.md, 27.md. -/
def Obligations.ExpiryAndAbortFreeTheLoop : Prop :=
  ∀ (l : LoopId) (s : State),
    (∀ n, (s.loopAt l).state = .opened → (s.loopAt l).spanTimer = some n → n ≤ s.ctrl.elapsed.toNat →
      ∃ t, exec (.spanExpiry l) s = .next t ∧ t.loopAt l = { generation := (s.loopAt l).generation } ∧
        (∀ i, i ≠ l → t.loopAt i = s.loopAt i) ∧
        t.drift.batches = (if (s.loopAt l).pending = [] then s.drift.batches
          else s.drift.batches ++
            [⟨.expired (s.loopAt l).openValue (s.loopAt l).baseRef, (s.loopAt l).pending⟩]) ∧
        t.ctrl = { s.ctrl with raised := s.ctrl.raised ++ [.loop] } ∧
        unchangedBut [.drift, .ctrl] s t) ∧
    (s.order.stage = .acting .presented → s.order.code = 7 → s.order.arg0 = BitVec.ofNat 64 l.val →
      ((s.loopAt l).state = .opened → ∃ t, exec .abortLoop s = .next t ∧
        t.loopAt l = { generation := (s.loopAt l).generation } ∧
        (∀ i, i ≠ l → t.loopAt i = s.loopAt i) ∧
        t.drift.batches = (if (s.loopAt l).pending = [] then s.drift.batches
          else s.drift.batches ++
            [⟨.aborted (s.loopAt l).openValue (s.loopAt l).baseRef, (s.loopAt l).pending⟩]) ∧
        t.ctrl = { s.ctrl with raised := s.ctrl.raised ++ [.loop] } ∧
        t.order = { s.order with status := some .done, reason := .none, stage := .answerWord } ∧
        unchangedBut [.drift, .ctrl, .order] s t) ∧
      ((s.loopAt l).state ≠ .opened → exec .abortLoop s = .next { s with
        order := { s.order with status := some .refused, reason := .loopState, stage := .answerWord } }))

/-- The next entry of the oldest batch, once HELD, becomes WRITING and its finalization begins; while it is RESERVED
the Drift Unit waits (R48). The values written follow the kind of the batch (R46). The model's own choices in it:
notes/assumptions/27.md. -/
def Obligations.FinalizationTakesTheNextEntry : Prop :=
  (∀ (s : State) (b : Batch) (bs : List Batch) (e : PoolEntry) (es : List PoolEntry),
    s.drift.finalizing = none → s.drift.batches = b :: bs → b.entries = e :: es →
    (e.phase = .held → exec .finalizationEntry s = .next { s with drift := { s.drift with
      finalizing := some .drift
      batches := { b with entries := { e with phase := .writing } :: es } :: bs } }) ∧
    (e.phase = .reserved → exec .finalizationEntry s = .next s)) ∧
  (∀ (e : PoolEntry) (d t v ref : Int) (t0 closeTime : Nat) (g : BitVec 32),
    (0 < t → finalFields (.closed d t v t0 ref closeTime g) e =
      ⟨.applied, roundDiv (d * ((e.midTime : Int) - t0)) t.toNat,
        e.mean - v - roundDiv (d * ((e.midTime : Int) - t0)) t.toNat + ref, true, closeTime, e.loopGen⟩) ∧
    (t ≤ 0 → finalFields (.closed d t v t0 ref closeTime g) e =
      ⟨.zeroSpan, 0, e.mean - v + ref, true, closeTime, e.loopGen⟩) ∧
    finalFields (.expired v ref) e = ⟨.expired, 0, e.mean - v + ref, true, 0, e.loopGen⟩ ∧
    finalFields (.aborted v ref) e = ⟨.aborted, 0, e.mean - v + ref, true, 0, e.loopGen⟩ ∧
    finalFields .noLoop e = ⟨.noLoop, 0, 0, false, 0, e.loopGen⟩ ∧
    finalFields .withdrawn e = ⟨.withdrawn, 0, 0, false, 0, e.loopGen⟩)

/-- Every step keeps a FREE loop empty, and a span timer armed exactly while its loop is OPEN (R30, R49). -/
def Obligations.LoopsKeepTheirShape : Prop := keptByStep loopsShaped

/-- Every step keeps the entries in use at 64 or fewer (R35). -/
def Obligations.PoolStaysBounded : Prop := keptByStep poolBounded

/-! ## Sheets and lanes (08) -/

/-- The poll timer's expiry sets the flags of the lanes that are not HELD and re-arms the timer; with no look under
way, the first flagged lane after the one served last is looked at, from its root or its anchor (R141 to R143). The
model's own choices in it: notes/assumptions/4.md. -/
def Obligations.PollsAndLooksBegin : Prop :=
  ∀ s : State,
    (∀ x, s.walker.pollTimer = some x → x ≤ s.ctrl.elapsed.toNat → ∃ t, exec .pollExpiry s = .next t ∧
      (∀ n, (s.lane n).state ≠ .held → t.lane n = { s.lane n with flag := true }) ∧
      (∀ n, (s.lane n).state = .held → t.lane n = s.lane n) ∧
      t.walker.pollTimer =
        (if s.walker.pollInterval = 0 then none else some (s.ctrl.elapsed.toNat + s.walker.pollInterval)) ∧
      t.walker.look = s.walker.look ∧ unchangedBut [.walker] s t) ∧
    (∀ (n j : Lane), s.walker.look = none → n = s.walker.lastServed + 1 + j → (s.lane n).flag = true →
      (∀ i, i < j → (s.lane (s.walker.lastServed + 1 + i)).flag = false) →
      ∃ t k, exec .lookBegin s = .next t ∧ t.walker.look = some k ∧ k.lane = n ∧
        k.before = (s.lane n).state ∧ k.moved = 0 ∧ k.placed = false ∧ k.stopped = false ∧ k.claim = none ∧
        ((s.lane n).anchor = none → k.stage = .rootRead) ∧
        ((s.lane n).anchor ≠ none → k.stage = .nextRead) ∧
        t.lane n = { s.lane n with flag := false } ∧ (∀ i, i ≠ n → t.lane i = s.lane i) ∧
        t.walker.lastServed = n ∧ t.walker.pollTimer = s.walker.pollTimer ∧ unchangedBut [.walker] s t)

/-- The calibration check claims a VALID set and goes on to TAKEN; a set that is not VALID refuses the sheet CAL_EMPTY
and no count changes. The take of an order sheet puts its order in progress, in READING, and the anchor on the sheet,
and the look goes on, or ends where there is no next sheet or a STOP was taken; the order then keeps STOPPING from
ending (R143, R154, R188, R90, R149, R151, R152, R159, R160). The model's own choices in it: notes/assumptions/13.md.
-/
def Obligations.CalibrationCheckAndOrderTake : Prop :=
  (∀ (s : State) (k : Look) (q : StationRequest) (c : SetId), s.walker.look = some k → k.stage = .calCheck →
    k.request = some q → q.set = BitVec.ofNat 8 c.val → k.claim = none →
    ((s.calSet c).state = .valid → exec .calibrationCheck s =
      .next ((s.updCalSet c fun x => { x with use := x.use + 1 }).setLook (some
        { k with stage := .takenWrite, claim := some c,
                 claimSerial := (s.calSet c).contents.serial }))) ∧
    ((s.calSet c).state ≠ .valid → exec .calibrationCheck s =
      .next (s.setLook (some { k with stage := .answerWrite .calEmpty })))) ∧
  (∀ (s : State) (k : Look), s.walker.look = some k → k.stage = .orderTake →
    ∃ t, exec .orderTake s = .next t ∧ t.order = { sheet := some k.candidate, stage := .reading } ∧
      t.lane k.lane = { s.lane k.lane with anchor := some k.candidate, state := .waiting } ∧
      (∀ i, i ≠ k.lane → t.lane i = s.lane i) ∧ t.ctrl = s.ctrl ∧
      (k.stopped = true ∨ k.next = 0 → t.walker.look = none) ∧
      (k.stopped = false → k.next ≠ 0 → k.next.toNat % 8 = 0 → t.walker.look = some
        { k with stage := .headerRead, candidate := k.next, placed := false, claim := none, request := none }) ∧
      (k.stopped = false → k.next.toNat % 8 ≠ 0 → t.walker.look = some
        { k with stage := .misaligned k.next, placed := false, claim := none, request := none }) ∧
      unchangedBut [.walker, .order] s t)

/-- The take of a station sheet: the identity check, the loop check and the record's take are one event; a failed
check returns the claim and refuses the sheet. A BASE_OPEN makes its loop OPENING, a BASE_CLOSE or BASE_TURN makes it
CLOSING, and a STATION leaves it; the record enters IDENTIFYING, SETTLING or ACQUIRING by the head's identity and
judge, and a link that is DOWN is a link loss at the take; what was presented to the record before has no effect on
the new occupation; the look goes on, or ends where there is no next sheet or a STOP was taken, and the record then
keeps STOPPING from ending (R143, R154, R188, R150, R3 to R5, R8, R32 to R34, R90, R91). The model's own choices in
it: notes/assumptions/13.md, 22.md, 31.md. -/
def Obligations.TakeStartsTheOccupation : Prop :=
  ∀ (s : State) (k : Look) (q : StationRequest) (c : SetId) (role : Role) (h : Head) (loop : Option LoopId)
    (start chosen : OccRecord),
    s.walker.look = some k → k.stage = .take → k.request = some q → k.claim = some c →
    roleOf q.role = some role → k.lane = h.castSucc → loopOfByte q.loop = loop →
    ((s.headState h).known = true → (s.headState h).serial ≠ k.claimSerial →
      exec .take s = .next ((s.updCalSet c fun x => { x with use := x.use - 1 }).setLook
        (some { k with stage := .answerWrite .headMismatch, claim := none }))) ∧
    (((s.headState h).known = false ∨ (s.headState h).serial = k.claimSerial) →
      (∀ l, loop = some l →
        (role = .baseOpen ∧ (s.loopAt l).state ≠ .free ∨
          (role = .baseClose ∨ role = .baseTurn) ∧ (s.loopAt l).state ≠ .opened ∨
          role = .station ∧ (s.loopAt l).state = .free) →
        exec .take s = .next ((s.updCalSet c fun x => { x with use := x.use - 1 }).setLook
          (some { k with stage := .answerWrite .loopState, claim := none })))) ∧
    (((s.headState h).known = false ∨ (s.headState h).serial = k.claimSerial) →
      (∀ l, loop = some l → role = .baseOpen ∧ (s.loopAt l).state = .free ∨
        (role = .baseClose ∨ role = .baseTurn) ∧ (s.loopAt l).state = .opened ∨
        role = .station ∧ (s.loopAt l).state ≠ .free) →
      start = { state := .identifying, takeNo := (s.record h).takeNo + 1, sheet := k.candidate, role := role,
                loopId := loop,
                loopGen := (match loop with
                  | none => 0
                  | some l => if role = .baseOpen then (s.loopAt l).generation + 1
                    else (s.loopAt l).generation),
                calSet := c, options := q.options, baseRef := q.baseRef, target := q.target,
                minGood := q.minGood, settleLimit := q.settleLimit, acquireLimit := q.acquireLimit,
                linkGrace := q.linkGrace, maxIntr := q.maxIntr, trailCap := q.trailCap,
                trailBase := k.candidate.toNat + 0x200,
                settleTimer := some (s.ctrl.elapsed.toNat + q.settleLimit * 1000)
                answer := (s.record h).answer } →
      ((s.headState h).known = false → chosen = start) →
      ((s.headState h).known = true → (s.headState h).judge = .unsettled →
        chosen = { start with state := .settling }) →
      ((s.headState h).known = true → (s.headState h).judge = .settled →
        chosen = { start with
          state := .acquiring, settleTimer := none, acqSeen := true
          acquireTimer := some (s.ctrl.elapsed.toNat + q.acquireLimit * 1000) }) →
      ∃ t, exec .take s = .next t ∧
        ((s.link h).judge = .up → t.record h = chosen ∧ t.cal = s.cal) ∧
        ((s.link h).judge = .down → q.linkGrace ≠ 0 →
          t.record h = { chosen with graceTimer := some (s.ctrl.elapsed.toNat + q.linkGrace * 1000) } ∧
          t.cal = s.cal) ∧
        ((s.link h).judge = .down → q.linkGrace = 0 →
          t.record h = { chosen with state := .writing, step := some .result, outcome := some .linkLost,
                                     settleTimer := none, acquireTimer := none } ∧
          .result h ∈ t.occ.queue ∧ (t.calSet c).use = (s.calSet c).use - 1) ∧
        t.inbox h = {} ∧ (∀ i, i ≠ h → t.record i = s.record i ∧ t.inbox i = s.inbox i) ∧
        (∀ l, loop = some l →
          (role = .baseOpen → t.loopAt l = { s.loopAt l with
            state := .opening, generation := (s.loopAt l).generation + 1, openValue := 0, openTime := 0,
            baseRef := 0, openElapsed := 0, spanTimer := none }) ∧
          (role = .baseClose ∨ role = .baseTurn →
            t.loopAt l = { s.loopAt l with state := .closing, spanTimer := none }) ∧
          (role = .station → t.loopAt l = s.loopAt l) ∧ (∀ i, i ≠ l → t.loopAt i = s.loopAt i) ∧
          (role ≠ .station → t.ctrl = { s.ctrl with raised := s.ctrl.raised ++ [.loop] })) ∧
        (loop = none ∨ role = .station → t.drift = s.drift ∧ t.ctrl = s.ctrl) ∧
        t.lane k.lane = { s.lane k.lane with anchor := some k.candidate, state := .waiting } ∧
        (k.stopped = true ∨ k.next = 0 → t.walker.look = none) ∧
        (k.stopped = false → k.next ≠ 0 → k.next.toNat % 8 = 0 → t.walker.look = some
          { k with stage := .headerRead, candidate := k.next, placed := false, claim := none, request := none }) ∧
        (k.stopped = false → k.next.toNat % 8 ≠ 0 → t.walker.look = some
          { k with stage := .misaligned k.next, placed := false, claim := none, request := none }) ∧
        unchangedBut [.occ, .cal, .drift, .walker, .ctrl] s t)

/-- Every step keeps the fault reason, the start-up, the poll timer, the look flags and the look in step with the
engine state, and ROOT a multiple of 8 (R184, R186, R187, R141, R154). -/
def Obligations.EngineStaysConsistent : Prop := keptByStep engineConsistent

/-! ## Orders and calibration sets (09, 05) -/

/-- The orders that their owners decide, or begin, at one event: SET_CLOCK, LOAD_CAL, CLEAR_CAL and SWAP_TIDE (R165,
R92, R96, R108, R109, R168, R169). That the expected start and the first start of the pending table are 0 when a
SWAP_TIDE begins its scan is the model's choice, and the clause of a SWAP_TIDE with count not 0 rests on it:
notes/assumptions/36.md. -/
def Obligations.OrdersDecidedAtTheirOwners : Prop :=
  ∀ (s : State) (answered : OrderStatus → Reason → OrderExecutor), s.order.stage = .acting .presented →
    (∀ st r, answered st r = { s.order with status := some st, reason := r, stage := .answerWord }) →
    (s.order.code = 1 →
      ((∀ h, (s.record h).state = .idle) → (∀ l, (s.loopAt l).state = .free) →
        exec .setClock s = .next { s with
          ctrl := { s.ctrl with offset := s.order.arg0 - s.ctrl.elapsed, clockSet := true }
          order := answered .done .none }) ∧
      (((∃ h, (s.record h).state ≠ .idle) ∨ (∃ l, (s.loopAt l).state ≠ .free)) →
        exec .setClock s = .next { s with order := answered .refused .clockInUse })) ∧
    (∀ c : SetId, s.order.arg0 = BitVec.ofNat 64 c.val →
      (s.order.code = 3 → (s.calSet c).use = 0 →
        ∃ t, exec .loadCal s = .next t ∧ t.calSet c = { s.calSet c with state := .loading, contents := {} } ∧
          (∀ i, i ≠ c → t.calSet i = s.calSet i) ∧ t.cal.load = some ⟨c, s.order.arg1.toNat, []⟩ ∧
          t.order = { s.order with stage := .acting .loading } ∧ unchangedBut [.cal, .order] s t) ∧
      (s.order.code = 3 → (s.calSet c).use ≠ 0 →
        exec .loadCal s = .next { s with order := answered .refused .setBusy }) ∧
      (s.order.code = 4 → (s.calSet c).use = 0 →
        ∃ t, exec .clearCal s = .next t ∧ t.calSet c = { s.calSet c with state := .empty, contents := {} } ∧
          (∀ i, i ≠ c → t.calSet i = s.calSet i) ∧ t.order = answered .done .none ∧
          unchangedBut [.cal, .order] s t) ∧
      (s.order.code = 4 → (s.calSet c).use ≠ 0 →
        exec .clearCal s = .next { s with order := answered .refused .setBusy })) ∧
    (s.order.code = 5 →
      (s.order.arg1 = 0 → exec .swapTide s = .next { s with
        tide := { s.tide with current := none, tableNo := s.tide.tableNo + 1, cache := [] }
        order := answered .done .none }) ∧
      (s.order.arg1 ≠ 0 → exec .swapTide s = .next { s with
        tide := { s.tide with
          pendingTable := some ⟨s.order.arg0.toNat, s.order.arg1.toNat, 0, 0, 0⟩, scanOwner := some .order }
        order := { s.order with stage := .acting .scanning } }))

/-- SET_HEAD of an idle head loads its settings, clears the judge and the cadence phase, and loads the link's
settings; a rate change takes the receiver back to SEARCH, HUNT and DOWN with an empty queue. A judge that was SETTLED
raises SETTLE, and a link that goes DOWN raises LINK, and each transition is presented. A head with an occupation
refuses the order HEAD_BUSY (R166, R70, R135). The model's own choices in it: notes/assumptions/6.md, 9.md, 10.md,
11.md, 12.md. -/
def Obligations.SetHeadLoadsSettings : Prop :=
  ∀ (h : Head) (s : State) (x : HeadSettings) (settles drops : Bool),
    s.order.stage = .acting .presented → s.order.code = 2 →
    s.order.arg0 = BitVec.ofNat 64 h.val →
    x = parseSettings s.order.arg1 s.order.arg2 s.order.arg3 →
    (settles = true ↔ (s.headState h).judge = .settled) →
    (drops = true ↔ (s.link h).rate ≠ rateOf x.rateCode ∧ (s.link h).judge = .up) →
    (∀ e, s.corr.evaluator = some e → e.phase = .between) →
    ((s.record h).state ≠ .idle → exec .setHead s = .next { s with
      order := { s.order with status := some .refused, reason := .headBusy, stage := .answerWord } }) ∧
    ((s.record h).state = .idle → ∃ t, exec .setHead s = .next t ∧
      t.headState h = { s.headState h with
        judge := .unsettled, inRun := 0, outRun := 0, prevTemp := none, phase := 0, tolIn := x.tolIn,
        tolOut := x.tolOut, tempStep := x.tempStep, runIn := x.runIn, runOut := x.runOut, on := x.on,
        off := x.off, levelX := x.levelX, levelY := x.levelY } ∧
      (∀ i, i ≠ h → t.headState i = s.headState i) ∧
      (∀ e, s.corr.evaluator = some e →
        t.corr.evaluator = if e.head = h then none else some e) ∧
      ((s.link h).rate = rateOf x.rateCode → t.link h =
        { s.link h with linkIn := x.linkIn, linkOut := x.linkOut, silence := x.silence }) ∧
      ((s.link h).rate ≠ rateOf x.rateCode → t.link h = { s.link h with
        rate := rateOf x.rateCode, linkIn := x.linkIn, linkOut := x.linkOut, silence := x.silence,
        tracker := .search, lockRun := 0, missRun := 0, timing := 0, incoming := [], assembler := .hunt, hunt := [],
        header := [], bits := [], judge := .down, goodRun := 0, badRun := 0, silenceTimer := none,
        expected := none, queue := [] }) ∧
      (∀ i, i ≠ h → t.link i = s.link i) ∧
      t.order = { s.order with status := some .done, reason := .none, stage := .answerWord } ∧
      t.ctrl = { s.ctrl with raised := s.ctrl.raised ++ (if settles then [.settle] else []) ++
        (if drops then [.link] else []) } ∧
      t.inbox h = { s.inbox h with
        judgeMsgs := (s.inbox h).judgeMsgs ++ (if settles then [.unsettled] else [])
        linkMsgs := (s.inbox h).linkMsgs ++ (if drops then [.down] else []) } ∧
      t.corr.downMsgs = s.corr.downMsgs.set h (s.corr.downMsgs[h] + drops.toNat) ∧
      (∀ i, t.record i = s.record i) ∧ unchangedBut [.links, .corr, .occ, .order, .ctrl] s t)

/-- CANCEL at the Occupation Controller: the record that holds the sheet ends CANCELLED, or refuses it ALREADY_ENDED
in WRITING; a sheet that no record holds goes on to the Drift Unit (R19, R170). -/
def Obligations.CancelAtTheOccupationController : Prop :=
  ∀ s : State, s.order.stage = .acting .presented → s.order.code = 6 →
    (∀ h, (s.record h).state ≠ .idle → (s.record h).sheet.toNat = s.order.arg0.toNat →
      (∀ i, i ≠ h → (s.record i).state = .idle ∨ (s.record i).sheet.toNat ≠ s.order.arg0.toNat) →
      ((s.record h).state ≠ .writing → ∃ t, exec .cancel s = .next t ∧ (t.record h).state = .writing ∧
        (t.record h).outcome = some .cancelled ∧ t.occ.queue = s.occ.queue ++ [.result h] ∧
        (∀ i, i ≠ h → t.record i = s.record i) ∧
        t.order = { s.order with status := some .done, reason := .none, stage := .answerWord } ∧
        unchangedBut [.occ, .cal, .order] s t) ∧
      ((s.record h).state = .writing → exec .cancel s = .next { s with order := { s.order with
        status := some .refused, reason := .alreadyEnded, stage := .answerWord } })) ∧
    ((∀ i, (s.record i).state = .idle ∨ (s.record i).sheet.toNat ≠ s.order.arg0.toNat) →
      exec .cancel s = .next { s with order := { s.order with stage := .acting .withdrawal } })

/-- CANCEL at the Drift Unit: a HELD entry on a pending list is withdrawn into a batch of its own, an entry in a batch
refuses the order ALREADY_ENDED, and with no entry it is NOT_FOUND (R52, R170). The model's own choices in it:
notes/assumptions/8.md, 27.md. -/
def Obligations.CancelAtTheDriftUnit : Prop :=
  ∀ (s : State) (has : PoolEntry → Bool), s.order.stage = .acting .withdrawal →
    (∀ h, s.reportAt h = none) →
    (∀ e, has e = true ↔ ∃ a, e.landing = some a ∧ a.sheet.toNat = s.order.arg0.toNat) →
    (∀ (l : LoopId) (e : PoolEntry), e ∈ (s.loopAt l).pending → e.phase = .held → has e = true →
      (∀ i, i ≠ l → ∀ y ∈ (s.loopAt i).pending, has y = false) →
      ∃ t, exec .cancelWithdrawal s = .next t ∧
        t.loopAt l = { s.loopAt l with pending := (s.loopAt l).pending.filter fun y => !has y } ∧
        (∀ i, i ≠ l → t.loopAt i = s.loopAt i) ∧
        t.drift.batches = s.drift.batches ++ [⟨.withdrawn, (s.loopAt l).pending.filter has⟩] ∧
        t.order = { s.order with status := some .done, reason := .none, stage := .answerWord } ∧
        unchangedBut [.drift, .order] s t) ∧
    ((∀ l, ∀ y ∈ (s.loopAt l).pending, has y = false) →
      ((∃ b ∈ s.drift.batches, ∃ e ∈ b.entries, has e = true) →
        exec .cancelWithdrawal s = .next { s with order := { s.order with
          status := some .refused, reason := .alreadyEnded, stage := .answerWord } }) ∧
      ((∀ b ∈ s.drift.batches, ∀ e ∈ b.entries, has e = false) →
        exec .cancelWithdrawal s = .next { s with order := { s.order with
          status := some .refused, reason := .notFound, stage := .answerWord } }))

/-- HEAD_RESET is presented to its three owners; each takes its part as an event of its own, and with the last of them
the order is done; after the judge clear, a record in ACQUIRING is first interrupted (R172, R134, R69, R20). The model's
own choices in it: notes/assumptions/6.md, 9.md, 10.md, 11.md, 12.md. -/
def Obligations.HeadResetInThreeParts : Prop :=
  ∀ (h : Head) (s : State) (after : Bool → Bool → Bool → OrderExecutor),
    s.order.arg0 = BitVec.ofNat 64 h.val →
    (∀ a b c, after a b c = if a && b && c then
        { s.order with status := some .done, reason := .none, stage := .answerWord }
      else { s.order with stage := .acting (.resetting a b c) }) →
    (s.order.stage = .acting .presented → s.order.code = 8 →
      exec .headReset s = .next { s with order := after false false false }) ∧
    (∀ b c, s.order.stage = .acting (.resetting false b c) → ∃ t, exec .headResetLinkPart s = .next t ∧
      t.link h = { s.link h with
        tracker := .search, lockRun := 0, missRun := 0, timing := 0, incoming := [], assembler := .hunt, hunt := [],
        header := [], bits := [], judge := .down, goodRun := 0, badRun := 0, silenceTimer := none,
        expected := none, queue := [], counters := {} } ∧
      ((s.link h).judge = .up → t.ctrl = { s.ctrl with raised := s.ctrl.raised ++ [.link] } ∧
        t.corr = { s.corr with downMsgs := s.corr.downMsgs.set h (s.corr.downMsgs[h] + 1) }) ∧
      ((s.link h).judge = .down → t.ctrl = s.ctrl ∧ t.corr = s.corr) ∧
      t.order = after true b c ∧ unchangedBut [.links, .corr, .ctrl, .order] s t) ∧
    (∀ a c, s.order.stage = .acting (.resetting a false c) →
      (∀ e, s.corr.evaluator = some e → e.phase = .between) →
      ∃ t, exec .headResetJudgePart s = .next t ∧
        t.headState h = { s.headState h with
          judge := .unsettled, inRun := 0, outRun := 0, prevTemp := none, known := false, serial := 0,
          kind := 0, rate := 0, phase := 0 } ∧
        (∀ e, s.corr.evaluator = some e → t.corr.evaluator = if e.head = h then none else some e) ∧
        ((s.headState h).judge = .settled →
          t.ctrl = { s.ctrl with raised := s.ctrl.raised ++ [.settle] } ∧
          t.inbox h = { s.inbox h with judgeMsgs := (s.inbox h).judgeMsgs ++ [.unsettled] }) ∧
        ((s.headState h).judge = .unsettled → t.ctrl = s.ctrl ∧ t.occ = s.occ) ∧
        (∀ i, t.record i = s.record i) ∧
        t.order = after a true c ∧ unchangedBut [.corr, .occ, .ctrl, .order] s t) ∧
    (∀ a, s.order.stage = .acting (.resetting a true false) → (s.record h).state = .acquiring →
      .unsettled ∈ (s.inbox h).judgeMsgs → exec .headResetRecordPart s = .next s) ∧
    (∀ a b, s.order.stage = .acting (.resetting a b false) →
      (b = false ∨ (s.record h).state ≠ .acquiring ∨ .unsettled ∉ (s.inbox h).judgeMsgs) →
      ∃ t, exec .headResetRecordPart s = .next t ∧
      (((s.record h).state = .identifying ∨ (s.record h).state = .settling ∨
          (s.record h).state = .acquiring) →
        (t.record h).state = .writing ∧ (t.record h).outcome = some .headReset ∧
        t.occ.queue = s.occ.queue ++ [.result h]) ∧
      (((s.record h).state = .idle ∨ (s.record h).state = .writing) → t.occ = s.occ ∧ t.cal = s.cal) ∧
      t.order = after a b true ∧ unchangedBut [.occ, .cal, .order] s t)

/-- Every step keeps the contents of the calibration sets checked: those of a VALID set satisfy R88, and those of an
EMPTY set are the reset values (R87, R88). -/
def Obligations.ValidSetsStayChecked : Prop := keptByStep setsChecked

/-! ## Answers of survey memory -/

/-- The directory read is answered: the first of its five checks that fails ends STARTING with its reason; when all
pass, each owner loads its part, and the tide table is adopted: none with a count of 0, and RUNNING, or a scan (R187,
R114). A fault of any kind on the read ends STARTING with READ_FAULT (R180). That the expected start and the first
start of the pending table are 0 when that scan begins is the model's choice, and the clause of a tide count not 0
rests on it: notes/assumptions/36.md. The model's other choices in it: notes/assumptions/19.md, 20.md. -/
def Obligations.DirectoryReadAnswered : Prop :=
  (∀ (s : State) (data ws : List Word) (d : Directory) (passes : FaultReason → Prop),
    completes .controlPort data ws s → s.ctrl.starting = some .directory → d = parseDirectory ws →
    (passes .signature ↔ d.signature = 0x8E3D5A17) → (passes .check ↔ wordSum ws = 0) →
    (passes .windows ↔ d.sheetWindow.base % 8 = 0 ∧ d.sheetWindow.limit % 8 = 0 ∧
      d.sheetWindow.base < d.sheetWindow.limit ∧ d.tableWindow.base % 8 = 0 ∧ d.tableWindow.limit % 8 = 0 ∧
      d.tableWindow.base < d.tableWindow.limit ∧ d.statusAddress.toNat % 8 = 0 ∧
      d.sheetWindow.base ≤ d.statusAddress.toNat ∧ d.statusAddress.toNat + 0x1C0 ≤ d.sheetWindow.limit) →
    (passes .roots ↔ ∀ r ∈ d.roots,
      r = 0 ∨ (r % 8 = 0 ∧ d.sheetWindow.base ≤ r ∧ r < d.sheetWindow.limit)) →
    (passes .range ↔ (d.pollInterval = 0 ∨ (10 ≤ d.pollInterval ∧ d.pollInterval ≤ 60000)) ∧
      (d.statusInterval = 0 ∨ (100 ≤ d.statusInterval ∧ d.statusInterval ≤ 60000)) ∧
      1 ≤ d.spanLimit ∧ d.spanLimit ≤ 1440 ∧ d.retryCode ≤ 3 ∧ 4 ≤ d.grantSize ∧ d.grantSize ≤ 64 ∧
      d.tideCount ≤ 4096 ∧ (d.tideCount ≠ 0 → d.tideAddress % 8 = 0)) →
    (∀ r, (r = .signature ∧ ¬ passes .signature ∨ passes .signature ∧
        (r = .check ∧ ¬ passes .check ∨ passes .check ∧
          (r = .windows ∧ ¬ passes .windows ∨ passes .windows ∧
            (r = .roots ∧ ¬ passes .roots ∨ passes .roots ∧ r = .range ∧ ¬ passes .range)))) →
      ∃ t, exec (.busAnswer (.okay data)) s = .next t ∧ t.ctrl.engine = .faulted ∧ t.ctrl.faultReason = r ∧
        t.ctrl.starting = none ∧ t.ctrl.raised = s.ctrl.raised ++ [.engine] ∧
        t.port = (s.freed .controlPort).port ∧ unchangedBut [.port, .ctrl] s t) ∧
    (passes .signature → passes .check → passes .windows → passes .roots → passes .range →
      ∃ t, exec (.busAnswer (.okay data)) s = .next t ∧
        t.port = { (s.freed .controlPort).port with
          sheetWindow := some d.sheetWindow, tableWindow := some d.tableWindow,
          retryLimit := retryLimitOf d.retryCode, grantSize := d.grantSize } ∧
        t.walker.pollInterval = d.pollInterval ∧ t.walker.directory = s.ctrl.directory ∧
        t.drift = { s.drift with spanLimit := d.spanLimit } ∧
        t.ctrl.statusAddress = some d.statusAddress ∧ t.ctrl.statusInterval = d.statusInterval ∧
        t.ctrl.statusTimer = (if d.statusInterval = 0 then none
          else some (s.ctrl.elapsed.toNat + d.statusInterval)) ∧
        (s.ctrl.refresh = none → t.ctrl.refresh = some .odd) ∧
        (d.tideCount = 0 → t.ctrl.engine = .running ∧ t.ctrl.starting = none ∧
          t.ctrl.raised = s.ctrl.raised ++ [.engine] ∧
          t.tide = { s.tide with current := none, tableNo := s.tide.tableNo + 1, cache := [] } ∧
          (∀ n, t.lane n = { s.lane n with flag := true }) ∧
          t.walker.pollTimer = (if d.pollInterval = 0 then none
            else some (s.ctrl.elapsed.toNat + d.pollInterval))) ∧
        (d.tideCount ≠ 0 → t.ctrl.engine = s.ctrl.engine ∧ t.ctrl.starting = some .scan ∧
          t.ctrl.raised = s.ctrl.raised ∧
          t.tide = { s.tide with
            pendingTable := some ⟨d.tideAddress, d.tideCount, 0, 0, 0⟩, scanOwner := some .starting } ∧
          t.walker.lanes = s.walker.lanes) ∧
        unchangedBut [.port, .ctrl, .drift, .walker, .tide] s t)) ∧
  (∀ (s : State) (k : FaultKind) (c : Instr), faults .controlPort k c s → s.ctrl.starting = some .directory →
    ∃ t, exec c s = .next t ∧ t.ctrl.engine = .faulted ∧ t.ctrl.faultReason = .readFault ∧
      t.ctrl.starting = none ∧ t.ctrl.raised = s.ctrl.raised ++ [.memfault, .engine] ∧ t.port.grant = none ∧
      t.slot .controlPort = none ∧ (∃ d a, t.port.lastFault = some ⟨.controlPort, d, a, k⟩) ∧
      unchangedBut [.port, .ctrl] s t)

/-- The root or next-pointer read finds no candidate with 0 and leaves the lane UNROOTED or WAITING, a misaligned one,
or one whose header is read next (R143). The header of a candidate decides: VOID is passed, FILED with a busy owner
leaves the lane BUSY, another state WAITING, and a FILED one with a free owner meets checks 1 and 2; the request part
then meets checks 3 to 8 in their order, the first that fails refusing the sheet (R142, R144, R145, R147, R148, R152).
The model's own choices in it: notes/assumptions/13.md, 14.md. -/
def Obligations.SheetsAreValidated : Prop :=
  ∀ (s u : State) (data ws : List Word) (k n : Look), completes .sheetWalker data ws s →
    u = s.freed .sheetWalker → s.walker.look = some k → k.stopped = false → k.claim = none →
    n = { k with next := wordAt ws 2 } →
    (k.stage = .rootRead ∨ k.stage = .nextRead →
      (wordAt ws 0 = 0 → ∃ t, exec (.busAnswer (.okay data)) s = .next t ∧ t.walker.look = none ∧
        t.lane k.lane = { s.lane k.lane with
          state := if (s.lane k.lane).anchor = none then .unrooted else .waiting } ∧
        (∀ i, i ≠ k.lane → t.lane i = s.lane i) ∧ unchangedBut [.port, .walker] s t) ∧
      ((wordAt ws 0).toNat % 8 ≠ 0 → exec (.busAnswer (.okay data)) s = .next (u.setLook (some
        { k with stage := .misaligned (wordAt ws 0), placed := false, claim := none, request := none }))) ∧
      (wordAt ws 0 ≠ 0 → (wordAt ws 0).toNat % 8 = 0 →
        exec (.busAnswer (.okay data)) s = .next (u.setLook (some
          { k with stage := .headerRead, candidate := wordAt ws 0, placed := false, claim := none,
                   request := none })))) ∧
    (k.stage = .headerRead →
      (wordAt ws 0 = 2 → ∃ t, exec (.busAnswer (.okay data)) s = .next t ∧
        (t.lane k.lane).anchor = some k.candidate ∧ (t.lane k.lane).state = .waiting ∧
        (64 ≤ k.moved + 1 → t.walker.look = none ∧ (t.lane k.lane).flag = true) ∧
        (k.moved + 1 < 64 → n.next = 0 → t.walker.look = none) ∧
        (k.moved + 1 < 64 → n.next ≠ 0 → n.next.toNat % 8 = 0 →
          t.walker.look = some { n with stage := .headerRead, candidate := n.next, moved := k.moved + 1,
                                        placed := false, request := none }) ∧
        (k.moved + 1 < 64 → n.next.toNat % 8 ≠ 0 →
          t.walker.look = some { n with stage := .misaligned n.next, moved := k.moved + 1, placed := false,
                                        request := none }) ∧
        unchangedBut [.port, .walker] s t) ∧
      (wordAt ws 0 ≠ 1 → wordAt ws 0 ≠ 2 →
        ∃ t, exec (.busAnswer (.okay data)) s = .next t ∧ t.walker.look = none ∧
          t.lane k.lane = { s.lane k.lane with state := .waiting } ∧ unchangedBut [.port, .walker] s t) ∧
      (∀ (busy : Prop), wordAt ws 0 = 1 →
        (busy ↔ (k.lane = 4 ∧ s.order.stage ≠ .none) ∨
          ∃ h : Head, k.lane = h.castSucc ∧ (s.record h).state ≠ .idle) →
        (busy → ∃ t, exec (.busAnswer (.okay data)) s = .next t ∧ t.walker.look = none ∧
          t.lane k.lane = { s.lane k.lane with state := .busy } ∧ unchangedBut [.port, .walker] s t) ∧
        (¬ busy →
          (∀ kind size : Nat, kind = (if k.lane = 4 then 2 else 1) →
            size = (if k.lane = 4 then 0x38 else 0x200) →
            ((wordAt ws 1).toNat ≠ kind → exec (.busAnswer (.okay data)) s =
              .next (u.setLook (some { n with stage := .answerWrite .kind }))) ∧
            ((wordAt ws 1).toNat = kind → s.insideSheet k.candidate.toNat size = false →
              exec (.busAnswer (.okay data)) s =
                .next (u.setLook (some { n with stage := .answerWrite .window }))) ∧
            ((wordAt ws 1).toNat = kind → s.insideSheet k.candidate.toNat size = true →
              exec (.busAnswer (.okay data)) s = .next (u.setLook (some
                { n with stage := if k.lane = 4 then .takenWrite else .requestRead }))))))) ∧
    (k.stage = .requestRead → ∀ (q : StationRequest) (passes : Nat → Prop), q = parseRequest ws →
      (passes 3 ↔ q.head.toNat = k.lane.val) → (passes 4 ↔ 1 ≤ q.role.toNat ∧ q.role.toNat ≤ 4) →
      (passes 5 ↔ q.loop.toNat ≤ 3 ∨ (q.loop = 0xFF ∧ q.role = 1)) →
      (passes 6 ↔ q.set.toNat ≤ 7 ∧ 1 ≤ q.target ∧ 1 ≤ q.minGood ∧ q.minGood ≤ q.target ∧
        1 ≤ q.settleLimit ∧ q.settleLimit ≤ 3600 ∧ 1 ≤ q.acquireLimit ∧ q.acquireLimit ≤ 3600 ∧
        q.linkGrace ≤ 600 ∧ q.maxIntr ≤ 15 ∧ q.trailCap ≤ 4096) →
      (passes 7 ↔ s.insideSheet (k.candidate.toNat + 0x200) (32 * q.trailCap) = true) →
      (passes 8 ↔ s.ctrl.clockSet = true ∨ (q.options.tide = false ∧ 3 < q.loop.toNat)) →
      (∀ r : Reason, (r = .head ∧ ¬ passes 3 ∨ passes 3 ∧ (r = .role ∧ ¬ passes 4 ∨ passes 4 ∧
          (r = .loopId ∧ ¬ passes 5 ∨ passes 5 ∧ (r = .limits ∧ ¬ passes 6 ∨ passes 6 ∧
            (r = .window ∧ ¬ passes 7 ∨ passes 7 ∧ r = .clockUnset ∧ ¬ passes 8))))) →
        exec (.busAnswer (.okay data)) s = .next (u.setLook (some { k with stage := .answerWrite r }))) ∧
      ((∀ i, 3 ≤ i → i ≤ 8 → passes i) → exec (.busAnswer (.okay data)) s =
        .next (u.setLook (some { k with stage := .calCheck, request := some q }))))

/-- The walker's writes: TAKEN answered makes the take next, the answer word is followed by REFUSED, and REFUSED
answered moves the anchor and raises SHEET, or ORDER on lane 4; a look that STOP met with no write placed ends at the
answer of its access, and a fault of any kind leaves the lane HELD, with its claim returned (R146, R149, R151, R152,
R154, R180). At the end of a look carried through, the stop condition is tested in STOPPING (R188). The model's own
choices in it: notes/assumptions/13.md, 15.md, 16.md. -/
def Obligations.WalkerWritesAnswered : Prop :=
  (∀ (s u : State) (data ws : List Word) (k : Look), completes .sheetWalker data ws s →
    u = s.freed .sheetWalker → s.walker.look = some k →
    (k.stopped = false ∨ k.placed = true →
      (k.stage = .takenWrite → exec (.busAnswer (.okay data)) s = .next (u.setLook (some
        { k with stage := if k.lane = 4 then .orderTake else .take }))) ∧
      (∀ r, k.stage = .answerWrite r →
        exec (.busAnswer (.okay data)) s = .next (u.setLook (some { k with stage := .refusedWrite }))) ∧
      (k.stage = .refusedWrite → ∃ t, exec (.busAnswer (.okay data)) s = .next t ∧
        (t.lane k.lane).anchor = some k.candidate ∧
        lookTested k [if k.lane = 4 then .order else .sheet] s t ∧
        (k.stopped = true → t.walker.look = none ∧ (t.lane k.lane).state = .waiting) ∧
        (k.stopped = false → k.moved + 1 < 64 → k.next ≠ 0 → k.next.toNat % 8 = 0 →
          ∃ m, t.walker.look = some m ∧ m.candidate = k.next ∧ m.stage = .headerRead ∧ m.placed = false ∧
            m.moved = k.moved + 1 ∧ m.claim = none) ∧
        unchangedBut [.port, .walker, .ctrl] s t)) ∧
    (k.stopped = true → k.placed = false → ∃ t, exec (.busAnswer (.okay data)) s = .next t ∧
      t.walker.look = none ∧ t.lane k.lane = { s.lane k.lane with state := k.before } ∧
      (∀ c, k.claim = some c → (t.calSet c).use = (s.calSet c).use - 1) ∧
      unchangedBut [.port, .walker, .cal] s t)) ∧
  (∀ (s : State) (f : FaultKind) (i : Instr) (k : Look), faults .sheetWalker f i s → s.walker.look = some k →
    ∃ t, exec i s = .next t ∧ t.walker.look = none ∧
      t.lane k.lane = { s.lane k.lane with state := .held } ∧ (∀ n, n ≠ k.lane → t.lane n = s.lane n) ∧
      lookTested k [.memfault] s t ∧ t.port.grant = none ∧ t.slot .sheetWalker = none ∧
      (∃ d a, t.port.lastFault = some ⟨.sheetWalker, d, a, f⟩) ∧
      (∀ c, k.claim = some c → (t.calSet c).use = (s.calSet c).use - 1) ∧
      unchangedBut [.port, .walker, .cal, .ctrl] s t)

/-- A probe narrows the range; a segment read answers with its term and is cached, or with a gap; a fault is a gap
too; a scanned segment passes, ends the scan with its reason, or, the last one, commits the table; a fault of a scan
read refuses the order WINDOW or MEMORY, or ends STARTING with TIDE_TABLE (R104 to R106, R110 to R112, R114). -/
def Obligations.TideReadsAnswered : Prop :=
  (∀ (s : State) (k : FaultKind) (c : Instr), faults .tideUnit k c s → s.tide.slot = some .scan →
    (s.tide.scanOwner = some .order → ∃ t, exec c s = .next t ∧
      t.tide = { s.tide with slot := none, pendingTable := none, scanOwner := none } ∧
      t.order = { s.order with
        status := some .refused, reason := if k = .window then .window else .memory, stage := .answerWord } ∧
      t.ctrl = { s.ctrl with raised := s.ctrl.raised ++ [.memfault] } ∧
      (∃ d a, t.port.lastFault = some ⟨.tideUnit, d, a, k⟩) ∧ unchangedBut [.port, .tide, .order, .ctrl] s t) ∧
    (s.tide.scanOwner = some .starting → ∃ t, exec c s = .next t ∧
      t.tide = { s.tide with slot := none, pendingTable := none, scanOwner := none, current := none,
                             tableNo := s.tide.tableNo + 1, cache := [] } ∧
      t.ctrl.engine = .faulted ∧ t.ctrl.faultReason = .tideTable ∧ t.ctrl.starting = none ∧
      t.ctrl.raised = s.ctrl.raised ++ [.memfault, .engine] ∧
      (∃ d a, t.port.lastFault = some ⟨.tideUnit, d, a, k⟩) ∧ unchangedBut [.port, .tide, .ctrl] s t)) ∧
  (∀ (s : State) (k : FaultKind) (c : Instr) (e : Evaluator) (x : Sample) (time : Nat) (y : Candidate),
    faults .tideUnit k c s → s.tide.slot = some .lookup → s.corr.evaluator = some e →
    e.phase = .awaitingTide x time y → (∀ p, s.tide.pendingTable = some p → p.nextIndex ≠ p.count) →
    ∃ t, exec c s = .next t ∧
      t.corr = { s.corr with evaluator := some { e with phase := .delivering x time .rejTide } } ∧
      t.tide = { s.tide with slot := none, lookup := none } ∧
      t.ctrl = { s.ctrl with raised := s.ctrl.raised ++ [.memfault, .tide] } ∧
      (∃ d a, t.port.lastFault = some ⟨.tideUnit, d, a, k⟩) ∧ unchangedBut [.port, .corr, .tide, .ctrl] s t) ∧
  ∀ (s u : State) (data ws : List Word) (g : Segment), completes .tideUnit data ws s → g = parseSegment ws →
    u = { s.freed .tideUnit with tide := { s.tide with slot := none } } →
    (∀ (k : Lookup) (e : Evaluator) (x : Sample) (time : Nat) (c : Candidate) (gap : State) (mid : Nat),
      s.tide.slot = some .lookup → s.tide.lookup = some k →
      s.corr.evaluator = some e → e.phase = .awaitingTide x time c →
      (∀ p, s.tide.pendingTable = some p → p.nextIndex ≠ p.count) →
      gap = ((u.setEvaluator (some { e with phase := .delivering x time .rejTide })).raise .tide).setLookup none →
      (k.phase = .probing → k.lo < k.hi → mid = (k.lo + k.hi + 1) / 2 →
        (k.time < g.start → exec (.busAnswer (.okay data)) s = .next (u.setLookup (some
          { k with hi := mid - 1, phase := if k.lo = mid - 1 then .reading else .probing }))) ∧
        (g.start + g.span ≤ k.time → mid < k.hi → exec (.busAnswer (.okay data)) s = .next (u.setLookup (some
          { k with lo := mid + 1, phase := if mid + 1 = k.hi then .reading else .probing }))) ∧
        (g.start + g.span ≤ k.time → mid = k.hi →
          exec (.busAnswer (.okay data)) s = .next gap) ∧
        (g.start ≤ k.time → k.time < g.start + g.span → exec (.busAnswer (.okay data)) s = .next (u.setLookup
          (some { k with lo := mid, hi := mid, phase := .reading })))) ∧
      (k.phase = .reading →
        (g.start ≤ k.time → k.time < g.start + g.span → ∃ t, exec (.busAnswer (.okay data)) s = .next t ∧
          t.corr.evaluator = some { e with phase := .crediting x time (c.finish (tideTermOf g k.time)) } ∧
          t.tide.lookup = none ∧
          (s.tide.tableNo ≠ k.tableNo → t.tide.cache = s.tide.cache) ∧
          (s.tide.tableNo = k.tableNo → ∃ kept, t.tide.cache = kept ++ [⟨k.lo, g⟩] ∧
            kept = (if (s.tide.cache.filter fun y => decide (y.index ≠ k.lo)).length < 4
              then s.tide.cache.filter fun y => decide (y.index ≠ k.lo)
              else (s.tide.cache.filter fun y => decide (y.index ≠ k.lo)).tail)) ∧
          t.tide.current = s.tide.current ∧ unchangedBut [.port, .corr, .tide] s t) ∧
        ((k.time < g.start ∨ g.start + g.span ≤ k.time) →
          exec (.busAnswer (.okay data)) s = .next gap))) ∧
    (∀ (k : Lookup) (p : PendingTable), s.tide.slot = some .lookup → s.tide.lookup = some k →
      k.phase = .reading → s.tide.pendingTable = some p → p.nextIndex = p.count →
      s.tide.scanOwner = some .order → ∃ t, exec (.busAnswer (.okay data)) s = .next t ∧
        t.tide = { s.tide with
          slot := none, lookup := none, pendingTable := none, scanOwner := none,
          current := some ⟨p.address, p.count, p.firstStart, p.expectedStart⟩,
          tableNo := s.tide.tableNo + 1, cache := [] } ∧
        t.order = { s.order with status := some .done, reason := .none, stage := .answerWord }) ∧
    (∀ (p : PendingTable) (r : Reason), s.tide.slot = some .scan → s.tide.pendingTable = some p →
      ((r = .tableOrder ∧ p.nextIndex ≠ 0 ∧ g.start ≠ p.expectedStart) ∨
        (p.nextIndex = 0 ∨ g.start = p.expectedStart) ∧
          ((r = .tableSpan ∧ (g.span < 60000 ∨ 86400000 < g.span)) ∨
            (60000 ≤ g.span ∧ g.span ≤ 86400000) ∧ r = .range ∧ 2 ^ 64 - 1 < g.start + g.span) →
        (s.tide.scanOwner = some .order → exec (.busAnswer (.okay data)) s =
          .next { u with tide := { u.tide with pendingTable := none, scanOwner := none }
                         order := { s.order with status := some .refused, reason := r, stage := .answerWord } }) ∧
        (s.tide.scanOwner = some .starting → ∃ t, exec (.busAnswer (.okay data)) s = .next t ∧
          t.tide = { u.tide with pendingTable := none, scanOwner := none, current := none,
                                 tableNo := s.tide.tableNo + 1, cache := [] } ∧
          t.ctrl.engine = .faulted ∧ t.ctrl.faultReason = .tideTable ∧ t.ctrl.starting = none ∧
          t.ctrl.raised = s.ctrl.raised ++ [.engine] ∧ unchangedBut [.port, .tide, .ctrl] s t)) ∧
      ((p.nextIndex = 0 ∨ g.start = p.expectedStart) → 60000 ≤ g.span → g.span ≤ 86400000 →
        g.start + g.span ≤ 2 ^ 64 - 1 → ∀ q : PendingTable,
        q = { p with nextIndex := p.nextIndex + 1, expectedStart := g.start + g.span,
                     firstStart := if p.nextIndex = 0 then g.start else p.firstStart } →
        ((p.nextIndex + 1 ≠ p.count ∨ s.tide.lookup ≠ none) → exec (.busAnswer (.okay data)) s =
          .next { u with tide := { u.tide with pendingTable := some q } }) ∧
        (p.nextIndex + 1 = p.count → s.tide.lookup = none → s.tide.scanOwner ≠ none →
          ∃ t, exec (.busAnswer (.okay data)) s = .next t ∧
          t.tide = { u.tide with pendingTable := none, scanOwner := none,
                                 current := some ⟨p.address, p.count, q.firstStart, g.start + g.span⟩,
                                 tableNo := s.tide.tableNo + 1, cache := [] } ∧
          (s.tide.scanOwner = some .order →
            t.order = { s.order with status := some .done, reason := .none, stage := .answerWord } ∧
            unchangedBut [.port, .tide, .order] s t) ∧
          (s.tide.scanOwner = some .starting → t.ctrl.engine = .running ∧ t.ctrl.starting = none ∧
            (∀ n, t.lane n = { s.lane n with flag := true }) ∧
            unchangedBut [.port, .tide, .walker, .ctrl] s t))))

/-- The order part is answered: an unknown code, an argument out of range, or the order is presented to its owner; the
answer word is followed by the state word, and that ends the order with ORDER raised; a fault of the read refuses
MEMORY, and one of any kind of the two writes ends the order without ORDER (R160 to R163, R180). At an order's end
lane 4, where it is BUSY in RUNNING, is flagged, and in STOPPING the stop condition is tested (R141, R188). That a
WINDOW fault of the read, which R160 rules out, refuses WINDOW is the model's choice: notes/assumptions/30.md. -/
def Obligations.OrdersReadAndAnswered : Prop :=
  (∀ (s u : State) (data ws : List Word) (o : OrderExecutor) (allowed : Prop),
    completes .orderExecutor data ws s → u = s.freed .orderExecutor →
    (s.order.stage = .reading →
      o = { s.order with code := wordAt ws 0, arg0 := dwordAt ws 1, arg1 := dwordAt ws 3,
                         arg2 := dwordAt ws 5, arg3 := dwordAt ws 7 } →
      (o.code = 1 → (allowed ↔ o.arg0.toNat < 2 ^ 63)) →
      (∀ x, x = parseSettings o.arg1 o.arg2 o.arg3 → o.code = 2 →
        (allowed ↔ o.arg0.toNat ≤ 3 ∧ x.rateCode ≤ 3 ∧ 1 ≤ x.linkIn ∧ x.linkIn ≤ 15 ∧ 1 ≤ x.linkOut ∧
          x.linkOut ≤ 15 ∧ 100 ≤ x.silence ∧ x.silence ≤ 10000 ∧ 1 ≤ x.tolIn ∧ x.tolIn ≤ 2000 ∧
          x.tolIn ≤ x.tolOut ∧ x.tolOut ≤ 2000 ∧ 1 ≤ x.runIn ∧ x.runIn ≤ 1023 ∧ 1 ≤ x.runOut ∧
          x.runOut ≤ 255 ∧ x.on ≤ 15 ∧ x.off ≤ 15 ∧ (x.on = 0 → x.off = 0))) →
      (o.code = 3 → (allowed ↔ o.arg0.toNat ≤ 7 ∧ o.arg1.toNat < 2 ^ 32 ∧ o.arg1.toNat % 8 = 0)) →
      (o.code = 4 → (allowed ↔ o.arg0.toNat ≤ 7)) →
      (o.code = 5 → (allowed ↔ o.arg1.toNat ≤ 4096 ∧
        (o.arg1 = 0 ∨ (o.arg0.toNat < 2 ^ 32 ∧ o.arg0.toNat % 8 = 0)))) →
      (o.code = 6 → (allowed ↔ o.arg0.toNat < 2 ^ 32 ∧ o.arg0.toNat % 8 = 0)) →
      (o.code = 7 ∨ o.code = 8 → (allowed ↔ o.arg0.toNat ≤ 3)) →
      ((o.code = 0 ∨ 8 < o.code.toNat) → exec (.busAnswer (.okay data)) s = .next { u with
        order := { o with status := some .refused, reason := .unknownOrder, stage := .answerWord } }) ∧
      (o.code ≠ 0 → o.code.toNat ≤ 8 → ¬ allowed → exec (.busAnswer (.okay data)) s = .next { u with
        order := { o with status := some .refused, reason := .range, stage := .answerWord } }) ∧
      (o.code ≠ 0 → o.code.toNat ≤ 8 → allowed → exec (.busAnswer (.okay data)) s =
        .next { u with order := { o with stage := .acting .presented } })) ∧
    (s.order.stage = .answerWord → exec (.busAnswer (.okay data)) s =
      .next { u with order := { s.order with stage := .answerState } }) ∧
    (s.order.stage = .answerState → ∃ t, exec (.busAnswer (.okay data)) s = .next t ∧ t.order = {} ∧
      stopTested [.order] s t ∧ busyLaneFlagged 4 s t ∧ unchangedBut [.port, .order, .walker, .ctrl] s t)) ∧
  (∀ (s : State) (k : FaultKind) (c : Instr), faults .orderExecutor k c s →
    ∃ t, exec c s = .next t ∧ t.port.grant = none ∧ t.slot .orderExecutor = none ∧
      (∃ d a, t.port.lastFault = some ⟨.orderExecutor, d, a, k⟩) ∧
      (s.order.stage = .reading →
        t.order = { s.order with
          status := some .refused, reason := if k = .window then .window else .memory, stage := .answerWord } ∧
        t.ctrl = { s.ctrl with raised := s.ctrl.raised ++ [.memfault] } ∧
        unchangedBut [.port, .order, .ctrl] s t) ∧
      (s.order.stage = .answerWord ∨ s.order.stage = .answerState →
        t.order = {} ∧ stopTested [.memfault] s t ∧ busyLaneFlagged 4 s t ∧
        unchangedBut [.port, .order, .walker, .ctrl] s t))

/-- The reads of a LOAD_CAL: the point count decides after the fixed part, and the whole record meets the three
checks; a failure makes the set EMPTY and refuses the order, and a pass makes it VALID and the order is done; a LOADING
set fills as the record is read; a fault of either read makes the set EMPTY and refuses the order WINDOW or MEMORY (R88,
R93 to R95). The model's own choices in it: notes/assumptions/35.md. -/
def Obligations.CalibrationLoadsAnswered : Prop :=
  (∀ (s : State) (l : CalLoad) (k : FaultKind) (c : Instr), faults .orderExecutor k c s →
    s.order.stage = .acting .loading → s.cal.load = some l → ∃ t, exec c s = .next t ∧
      t.calSet l.set = { s.calSet l.set with state := .empty, contents := {} } ∧
      (∀ i, i ≠ l.set → t.calSet i = s.calSet i) ∧ t.cal.load = none ∧
      t.order = { s.order with
        status := some .refused, reason := if k = .window then .window else .memory, stage := .answerWord } ∧
      t.ctrl = { s.ctrl with raised := s.ctrl.raised ++ [.memfault] } ∧
      (∃ d a, t.port.lastFault = some ⟨.orderExecutor, d, a, k⟩) ∧
      unchangedBut [.port, .cal, .order, .ctrl] s t) ∧
  ∀ (s u : State) (data ws : List Word) (l : CalLoad) (n : Nat) (k : CalContents) (failed : Reason → State),
    completes .orderExecutor data ws s → s.order.stage = .acting .loading → s.cal.load = some l →
    u = { s.freed .orderExecutor with cal := { s.cal with load := none } } →
    (∀ r, failed r = { u.updCalSet l.set fun x => { x with state := .empty, contents := {} } with
      order := { s.order with status := some .refused, reason := r, stage := .answerWord } }) →
    (l.fixed = [] → n = (wordAt ws 1).toNat →
      ((n < 2 ∨ 16 < n) → exec (.busAnswer (.okay data)) s = .next (failed .range)) ∧
      (2 ≤ n → n ≤ 16 → exec (.busAnswer (.okay data)) s =
        .next ((u.updCalSet l.set fun x => { x with
          state := .loading, contents := { parseCal ws [] with points := [] } }).setLoad
            (some { l with fixed := ws })))) ∧
    (l.fixed ≠ [] → k = parseCal l.fixed ws →
      (wordSum (l.fixed ++ ws) ≠ 0 → exec (.busAnswer (.okay data)) s = .next (failed .calCheck)) ∧
      (wordSum (l.fixed ++ ws) = 0 → (10000 < k.latency ∨ k.tiltMax < 1 ∨ 32767 < k.tiltMax) →
        exec (.busAnswer (.okay data)) s = .next (failed .range)) ∧
      (wordSum (l.fixed ++ ws) = 0 → k.latency ≤ 10000 → 1 ≤ k.tiltMax → k.tiltMax ≤ 32767 →
        ((k.cntMax < k.cntMin ∨ k.tMax < k.tMin ∨ ¬ (k.points.map Prod.fst).Pairwise (· < ·)) →
          exec (.busAnswer (.okay data)) s = .next (failed .calOrder)) ∧
        (k.cntMin ≤ k.cntMax → k.tMin ≤ k.tMax → (k.points.map Prod.fst).Pairwise (· < ·) →
          exec (.busAnswer (.okay data)) s =
            .next { u.updCalSet l.set fun x => { x with state := .valid, contents := k } with
              order := { s.order with status := some .done, reason := .none, stage := .answerWord } })))

/-- The writes of a finalization and of a refresh: drift answered makes FINAL next, FINAL answered frees the entry and
raises SHEET, and a fault of any kind frees it without; odd answered captures the snapshot, and the even word, or a
fault of any kind, ends the refresh with the generation raised by 2 and a pending one begun (R48, R180, R193, R194).
What the snapshot holds, offset by offset: engine state, clock-set flag and survey time, the heads, lanes and loops,
the pool, the tide table, the calibration sets and the last fault, each absent value 0, with the codes of chapter 12
(R194, R198, R29, R53, R71, R98, R115, R137, R158, R183). That a scan which waits for its commit is shown as in
progress is the model's choice: notes/assumptions/34.md. The model's other choices in it: notes/assumptions/27.md. -/
def Obligations.FinalizationAndStatusWritesAnswered : Prop :=
  (∀ (s u : State) (data ws : List Word) (b : Batch) (bs rest : List Batch) (e : PoolEntry)
    (es : List PoolEntry), completes .driftUnit data ws s → u = s.freed .driftUnit →
    s.drift.batches = b :: bs → b.entries = e :: es →
    rest = (if es = [] then bs else { b with entries := es } :: bs) →
    (s.drift.finalizing = some .drift → exec (.busAnswer (.okay data)) s =
      .next { u with drift := { s.drift with finalizing := some .stateWord } }) ∧
    (s.drift.finalizing = some .stateWord → exec (.busAnswer (.okay data)) s =
      .next (({ u with drift := { s.drift with finalizing := none, batches := rest } } : State).raise .sheet))) ∧
  (∀ (s : State) (k : FaultKind) (c : Instr) (b : Batch) (bs rest : List Batch) (e : PoolEntry)
    (es : List PoolEntry), faults .driftUnit k c s → s.drift.finalizing ≠ none → s.drift.batches = b :: bs →
    b.entries = e :: es → rest = (if es = [] then bs else { b with entries := es } :: bs) →
    ∃ t, exec c s = .next t ∧ t.drift = { s.drift with finalizing := none, batches := rest } ∧
      t.ctrl = { s.ctrl with raised := s.ctrl.raised ++ [.memfault] } ∧ t.port.grant = none ∧
      t.slot .driftUnit = none ∧ (∃ d a, t.port.lastFault = some ⟨.driftUnit, d, a, k⟩) ∧
      unchangedBut [.port, .drift, .ctrl] s t) ∧
  (∀ (s : State) (k : FaultKind) (c : Instr), faults .controlPort k c s → s.ctrl.starting ≠ some .directory →
    s.ctrl.refresh ≠ none → ∃ t, exec c s = .next t ∧
      t.ctrl = { s.ctrl with
        generation := s.ctrl.generation + 2, refreshPending := false
        refresh := if s.ctrl.refreshPending then some .odd else none
        raised := s.ctrl.raised ++ [.memfault] } ∧
      t.port.grant = none ∧ t.slot .controlPort = none ∧
      (∃ d a, t.port.lastFault = some ⟨.controlPort, d, a, k⟩) ∧ unchangedBut [.port, .ctrl] s t) ∧
  (∀ (s u : State) (data ws : List Word) (ended : ControlPort), completes .controlPort data ws s →
    u = s.freed .controlPort → s.ctrl.starting ≠ some .directory →
    ended = { s.ctrl with generation := s.ctrl.generation + 2, refreshPending := false,
                          refresh := if s.ctrl.refreshPending then some .odd else none } →
    (s.ctrl.refresh = some .odd → exec (.busAnswer (.okay data)) s =
      .next { u with ctrl := { s.ctrl with refresh := some (.body s.snapshot) } }) ∧
    (∀ v, s.ctrl.refresh = some (.body v) → exec (.busAnswer (.okay data)) s =
      .next { u with ctrl := { s.ctrl with refresh := some .even } }) ∧
    (s.ctrl.refresh = some .even → exec (.busAnswer (.okay data)) s = .next { u with ctrl := ended })) ∧
  (∀ (s : State) (word : Nat → Word), (∀ i, word i = statusWord s i) →
    s.snapshot.length = 111 ∧
    word 0x04 = packBytes s.ctrl.engine.code (if s.ctrl.clockSet then 1 else 0) 0 0 ∧
    word 0x0C ++ word 0x08 = s.ctrl.elapsed + s.ctrl.offset ∧
    (∀ (h : Head) (b : Nat), b = 0x10 + 0x48 * h.val →
      word b = packBytes (s.link h).tracker.code (s.link h).assembler.code (s.link h).judge.code
        (s.headState h).judge.code ∧
      word (b + 0x04) = (if (s.headState h).known
        then packBytes 1 (s.headState h).kind (s.headState h).rate (BitVec.ofNat 8 (s.link h).queue.length)
        else packBytes 0 0 0 (BitVec.ofNat 8 (s.link h).queue.length)) ∧
      word (b + 0x08) = (if (s.headState h).known then (s.headState h).serial else 0) ∧
      word (b + 0x0C) = packBytes (s.record h).state.code 0 0 0 ∧ word (b + 0x10) = (s.record h).sheet ∧
      word (b + 0x14) =
        BitVec.ofNat 32 (if (s.record h).state = .idle then 0 else (s.record h).acc.accepted) ∧
      word (b + 0x18) = (s.link h).counters.good ∧ word (b + 0x1C) = (s.link h).counters.headerErr ∧
      word (b + 0x20) = (s.link h).counters.kindErr ∧ word (b + 0x24) = (s.link h).counters.channelErr ∧
      word (b + 0x28) = (s.link h).counters.lengthErr ∧ word (b + 0x2C) = (s.link h).counters.crcErr ∧
      word (b + 0x30) = (s.link h).counters.aborted ∧ word (b + 0x34) = (s.link h).counters.gaps ∧
      word (b + 0x38) = (s.link h).counters.overflows ∧ word (b + 0x3C) = (s.link h).counters.unqueued ∧
      word (b + 0x40) = (s.link h).counters.timingLosses ∧
      word (b + 0x44) = (s.link h).counters.missedCells) ∧
    (∀ n : Lane, word (0x130 + 8 * n.val) = packBytes (s.lane n).state.code 0 0 0 ∧
      word (0x134 + 8 * n.val) = (match (s.lane n).anchor with
        | none => 0
        | some a => a)) ∧
    (∀ (l : LoopId) (b : Nat), b = 0x158 + 0x10 * l.val →
      word b = packBytes (s.loopAt l).state.code (BitVec.ofNat 8 (s.loopAt l).pending.length) 0 0 ∧
      word (b + 0x04) = (s.loopAt l).generation ∧
      word (b + 0x0C) ++ word (b + 0x08) = BitVec.ofNat 64 (s.loopAt l).openTime) ∧
    word 0x198 = BitVec.ofNat 32 (64 - s.poolUsed) ∧
    (s.tide.current = none → word 0x19C = 0 ∧ halfOf (word 0x1A0) 0 = 0) ∧
    (∀ x, s.tide.current = some x → word 0x19C = BitVec.ofNat 32 x.address ∧
      halfOf (word 0x1A0) 0 = BitVec.ofNat 16 x.count) ∧
    byteOf (word 0x1A0) 2 = (if s.tide.pendingTable = none then 0 else 1) ∧ byteOf (word 0x1A0) 3 = 0 ∧
    (∀ (c : SetId) (w : Word), w = word (0x1A4 + 4 * (c.val / 2)) →
      byteOf w (2 * (c.val % 2)) = (s.calSet c).state.code ∧
      byteOf w (2 * (c.val % 2) + 1) = BitVec.ofNat 8 (s.calSet c).use) ∧
    (s.port.lastFault = none → word 0x1B4 = 0 ∧ word 0x1B8 = 0) ∧
    (∀ f, s.port.lastFault = some f →
      word 0x1B4 = packBytes (BitVec.ofNat 8 f.requester.number.val) f.direction.code f.kind.code 0 ∧
      word 0x1B8 = BitVec.ofNat 32 f.address) ∧
    word 0x1BC = 0) ∧
  ([.halted, .starting, .running, .stopping, .stopped, .faulted].map EngineState.code = [0, 1, 2, 3, 4, 5] ∧
    [.idle, .identifying, .settling, .acquiring, .writing].map OccState.code = [0, 1, 2, 3, 4] ∧
    [.unrooted, .waiting, .busy, .held].map LaneState.code = [0, 1, 2, 3] ∧
    [.free, .opening, .opened, .closing].map LoopState.code = [0, 1, 2, 3] ∧
    [.empty, .loading, .valid].map SetState.code = [0, 1, 2] ∧
    [.search, .track].map Tracker.code = [0, 1] ∧
    [.hunt, .header, .payload].map Assembler.code = [0, 1, 2] ∧
    [.down, .up].map LinkJudge.code = [0, 1] ∧ [.unsettled, .settled].map SettleJudge.code = [0, 1] ∧
    [.window, .retryExhausted, .busError].map FaultKind.code = [1, 2, 3] ∧
    [.read, .write].map Direction.code = [0, 1])

/-! ## Reset -/

/-- The invariants hold right after reset. -/
def Obligations.InvariantsHoldAtReset : Prop :=
  framesBounded State.reset ∧ engineConsistent State.reset ∧ loopsShaped State.reset ∧
    poolBounded State.reset ∧ setsChecked State.reset ∧ trailsBounded State.reset ∧ cacheShaped State.reset

end
end

