-- ==== Sys2Proof/Laws/State.lean ====
section
/-! SUPPORT. One lemma for each field of the state and each update of it, so that no proof unfolds an update. -/

namespace Sys2Proof.Machine

variable (s : State)


/-! ### raise -/

@[simp] theorem raise_pending (e : Event) : (s.raise e).pending = s.pending := rfl
@[simp] theorem raise_links (e : Event) : (s.raise e).links = s.links := rfl
@[simp] theorem raise_corr (e : Event) : (s.raise e).corr = s.corr := rfl
@[simp] theorem raise_tide (e : Event) : (s.raise e).tide = s.tide := rfl
@[simp] theorem raise_cal (e : Event) : (s.raise e).cal = s.cal := rfl
@[simp] theorem raise_occ (e : Event) : (s.raise e).occ = s.occ := rfl
@[simp] theorem raise_drift (e : Event) : (s.raise e).drift = s.drift := rfl
@[simp] theorem raise_walker (e : Event) : (s.raise e).walker = s.walker := rfl
@[simp] theorem raise_order (e : Event) : (s.raise e).order = s.order := rfl
@[simp] theorem raise_port (e : Event) : (s.raise e).port = s.port := rfl
@[simp] theorem raise_link (e : Event) (h : Head) : (s.raise e).link h = s.link h := rfl
@[simp] theorem raise_record (e : Event) (h : Head) : (s.raise e).record h = s.record h := rfl
@[simp] theorem raise_inbox (e : Event) (h : Head) : (s.raise e).inbox h = s.inbox h := rfl
@[simp] theorem raise_headState (e : Event) (h : Head) : (s.raise e).headState h = s.headState h := rfl
@[simp] theorem raise_loopAt (e : Event) (l : LoopId) : (s.raise e).loopAt l = s.loopAt l := rfl
@[simp] theorem raise_reportAt (e : Event) (h : Head) : (s.raise e).reportAt h = s.reportAt h := rfl
@[simp] theorem raise_calSet (e : Event) (c : SetId) : (s.raise e).calSet c = s.calSet c := rfl
@[simp] theorem raise_lane (e : Event) (n : Lane) : (s.raise e).lane n = s.lane n := rfl
@[simp] theorem raise_slot (e : Event) (r : Requester) : (s.raise e).slot r = s.slot r := rfl
@[simp] theorem raise_now (e : Event) : (s.raise e).now = s.now := rfl
@[simp] theorem raise_survey (e : Event) : (s.raise e).survey = s.survey := rfl

/-! ### loadConfig -/

@[simp] theorem loadConfig_pending (w : Word) : (s.loadConfig w).pending = s.pending := rfl
@[simp] theorem loadConfig_links (w : Word) : (s.loadConfig w).links = s.links := rfl
@[simp] theorem loadConfig_corr (w : Word) : (s.loadConfig w).corr = s.corr := rfl
@[simp] theorem loadConfig_tide (w : Word) : (s.loadConfig w).tide = s.tide := rfl
@[simp] theorem loadConfig_cal (w : Word) : (s.loadConfig w).cal = s.cal := rfl
@[simp] theorem loadConfig_occ (w : Word) : (s.loadConfig w).occ = s.occ := rfl
@[simp] theorem loadConfig_drift (w : Word) : (s.loadConfig w).drift = s.drift := rfl
@[simp] theorem loadConfig_walker (w : Word) : (s.loadConfig w).walker = s.walker := rfl
@[simp] theorem loadConfig_order (w : Word) : (s.loadConfig w).order = s.order := rfl
@[simp] theorem loadConfig_port (w : Word) : (s.loadConfig w).port = s.port := rfl
@[simp] theorem loadConfig_link (w : Word) (h : Head) : (s.loadConfig w).link h = s.link h := rfl
@[simp] theorem loadConfig_record (w : Word) (h : Head) : (s.loadConfig w).record h = s.record h := rfl
@[simp] theorem loadConfig_inbox (w : Word) (h : Head) : (s.loadConfig w).inbox h = s.inbox h := rfl
@[simp] theorem loadConfig_headState (w : Word) (h : Head) : (s.loadConfig w).headState h = s.headState h := rfl
@[simp] theorem loadConfig_loopAt (w : Word) (l : LoopId) : (s.loadConfig w).loopAt l = s.loopAt l := rfl
@[simp] theorem loadConfig_reportAt (w : Word) (h : Head) : (s.loadConfig w).reportAt h = s.reportAt h := rfl
@[simp] theorem loadConfig_calSet (w : Word) (c : SetId) : (s.loadConfig w).calSet c = s.calSet c := rfl
@[simp] theorem loadConfig_lane (w : Word) (n : Lane) : (s.loadConfig w).lane n = s.lane n := rfl
@[simp] theorem loadConfig_slot (w : Word) (r : Requester) : (s.loadConfig w).slot r = s.slot r := rfl
@[simp] theorem loadConfig_now (w : Word) : (s.loadConfig w).now = s.now := rfl
@[simp] theorem loadConfig_survey (w : Word) : (s.loadConfig w).survey = s.survey := rfl

/-! ### updLink -/

@[simp] theorem updLink_pending (k : Head) (f : LinkReceiver → LinkReceiver) : (s.updLink k f).pending = s.pending := rfl
@[simp] theorem updLink_corr (k : Head) (f : LinkReceiver → LinkReceiver) : (s.updLink k f).corr = s.corr := rfl
@[simp] theorem updLink_tide (k : Head) (f : LinkReceiver → LinkReceiver) : (s.updLink k f).tide = s.tide := rfl
@[simp] theorem updLink_cal (k : Head) (f : LinkReceiver → LinkReceiver) : (s.updLink k f).cal = s.cal := rfl
@[simp] theorem updLink_occ (k : Head) (f : LinkReceiver → LinkReceiver) : (s.updLink k f).occ = s.occ := rfl
@[simp] theorem updLink_drift (k : Head) (f : LinkReceiver → LinkReceiver) : (s.updLink k f).drift = s.drift := rfl
@[simp] theorem updLink_walker (k : Head) (f : LinkReceiver → LinkReceiver) : (s.updLink k f).walker = s.walker := rfl
@[simp] theorem updLink_order (k : Head) (f : LinkReceiver → LinkReceiver) : (s.updLink k f).order = s.order := rfl
@[simp] theorem updLink_port (k : Head) (f : LinkReceiver → LinkReceiver) : (s.updLink k f).port = s.port := rfl
@[simp] theorem updLink_ctrl (k : Head) (f : LinkReceiver → LinkReceiver) : (s.updLink k f).ctrl = s.ctrl := rfl
@[simp] theorem updLink_record (k : Head) (f : LinkReceiver → LinkReceiver) (h : Head) : (s.updLink k f).record h = s.record h := rfl
@[simp] theorem updLink_inbox (k : Head) (f : LinkReceiver → LinkReceiver) (h : Head) : (s.updLink k f).inbox h = s.inbox h := rfl
@[simp] theorem updLink_headState (k : Head) (f : LinkReceiver → LinkReceiver) (h : Head) : (s.updLink k f).headState h = s.headState h := rfl
@[simp] theorem updLink_loopAt (k : Head) (f : LinkReceiver → LinkReceiver) (l : LoopId) : (s.updLink k f).loopAt l = s.loopAt l := rfl
@[simp] theorem updLink_reportAt (k : Head) (f : LinkReceiver → LinkReceiver) (h : Head) : (s.updLink k f).reportAt h = s.reportAt h := rfl
@[simp] theorem updLink_calSet (k : Head) (f : LinkReceiver → LinkReceiver) (c : SetId) : (s.updLink k f).calSet c = s.calSet c := rfl
@[simp] theorem updLink_lane (k : Head) (f : LinkReceiver → LinkReceiver) (n : Lane) : (s.updLink k f).lane n = s.lane n := rfl
@[simp] theorem updLink_slot (k : Head) (f : LinkReceiver → LinkReceiver) (r : Requester) : (s.updLink k f).slot r = s.slot r := rfl
@[simp] theorem updLink_now (k : Head) (f : LinkReceiver → LinkReceiver) : (s.updLink k f).now = s.now := rfl
@[simp] theorem updLink_survey (k : Head) (f : LinkReceiver → LinkReceiver) : (s.updLink k f).survey = s.survey := rfl

/-! ### updRecord -/

@[simp] theorem updRecord_pending (k : Head) (f : OccRecord → OccRecord) : (s.updRecord k f).pending = s.pending := rfl
@[simp] theorem updRecord_links (k : Head) (f : OccRecord → OccRecord) : (s.updRecord k f).links = s.links := rfl
@[simp] theorem updRecord_corr (k : Head) (f : OccRecord → OccRecord) : (s.updRecord k f).corr = s.corr := rfl
@[simp] theorem updRecord_tide (k : Head) (f : OccRecord → OccRecord) : (s.updRecord k f).tide = s.tide := rfl
@[simp] theorem updRecord_cal (k : Head) (f : OccRecord → OccRecord) : (s.updRecord k f).cal = s.cal := rfl
@[simp] theorem updRecord_drift (k : Head) (f : OccRecord → OccRecord) : (s.updRecord k f).drift = s.drift := rfl
@[simp] theorem updRecord_walker (k : Head) (f : OccRecord → OccRecord) : (s.updRecord k f).walker = s.walker := rfl
@[simp] theorem updRecord_order (k : Head) (f : OccRecord → OccRecord) : (s.updRecord k f).order = s.order := rfl
@[simp] theorem updRecord_port (k : Head) (f : OccRecord → OccRecord) : (s.updRecord k f).port = s.port := rfl
@[simp] theorem updRecord_ctrl (k : Head) (f : OccRecord → OccRecord) : (s.updRecord k f).ctrl = s.ctrl := rfl
@[simp] theorem updRecord_link (k : Head) (f : OccRecord → OccRecord) (h : Head) : (s.updRecord k f).link h = s.link h := rfl
@[simp] theorem updRecord_inbox (k : Head) (f : OccRecord → OccRecord) (h : Head) : (s.updRecord k f).inbox h = s.inbox h := rfl
@[simp] theorem updRecord_headState (k : Head) (f : OccRecord → OccRecord) (h : Head) : (s.updRecord k f).headState h = s.headState h := rfl
@[simp] theorem updRecord_loopAt (k : Head) (f : OccRecord → OccRecord) (l : LoopId) : (s.updRecord k f).loopAt l = s.loopAt l := rfl
@[simp] theorem updRecord_reportAt (k : Head) (f : OccRecord → OccRecord) (h : Head) : (s.updRecord k f).reportAt h = s.reportAt h := rfl
@[simp] theorem updRecord_calSet (k : Head) (f : OccRecord → OccRecord) (c : SetId) : (s.updRecord k f).calSet c = s.calSet c := rfl
@[simp] theorem updRecord_lane (k : Head) (f : OccRecord → OccRecord) (n : Lane) : (s.updRecord k f).lane n = s.lane n := rfl
@[simp] theorem updRecord_slot (k : Head) (f : OccRecord → OccRecord) (r : Requester) : (s.updRecord k f).slot r = s.slot r := rfl
@[simp] theorem updRecord_now (k : Head) (f : OccRecord → OccRecord) : (s.updRecord k f).now = s.now := rfl
@[simp] theorem updRecord_survey (k : Head) (f : OccRecord → OccRecord) : (s.updRecord k f).survey = s.survey := rfl

/-! ### updInbox -/

@[simp] theorem updInbox_pending (k : Head) (f : RecordInbox → RecordInbox) : (s.updInbox k f).pending = s.pending := rfl
@[simp] theorem updInbox_links (k : Head) (f : RecordInbox → RecordInbox) : (s.updInbox k f).links = s.links := rfl
@[simp] theorem updInbox_corr (k : Head) (f : RecordInbox → RecordInbox) : (s.updInbox k f).corr = s.corr := rfl
@[simp] theorem updInbox_tide (k : Head) (f : RecordInbox → RecordInbox) : (s.updInbox k f).tide = s.tide := rfl
@[simp] theorem updInbox_cal (k : Head) (f : RecordInbox → RecordInbox) : (s.updInbox k f).cal = s.cal := rfl
@[simp] theorem updInbox_drift (k : Head) (f : RecordInbox → RecordInbox) : (s.updInbox k f).drift = s.drift := rfl
@[simp] theorem updInbox_walker (k : Head) (f : RecordInbox → RecordInbox) : (s.updInbox k f).walker = s.walker := rfl
@[simp] theorem updInbox_order (k : Head) (f : RecordInbox → RecordInbox) : (s.updInbox k f).order = s.order := rfl
@[simp] theorem updInbox_port (k : Head) (f : RecordInbox → RecordInbox) : (s.updInbox k f).port = s.port := rfl
@[simp] theorem updInbox_ctrl (k : Head) (f : RecordInbox → RecordInbox) : (s.updInbox k f).ctrl = s.ctrl := rfl
@[simp] theorem updInbox_link (k : Head) (f : RecordInbox → RecordInbox) (h : Head) : (s.updInbox k f).link h = s.link h := rfl
@[simp] theorem updInbox_record (k : Head) (f : RecordInbox → RecordInbox) (h : Head) : (s.updInbox k f).record h = s.record h := rfl
@[simp] theorem updInbox_headState (k : Head) (f : RecordInbox → RecordInbox) (h : Head) : (s.updInbox k f).headState h = s.headState h := rfl
@[simp] theorem updInbox_loopAt (k : Head) (f : RecordInbox → RecordInbox) (l : LoopId) : (s.updInbox k f).loopAt l = s.loopAt l := rfl
@[simp] theorem updInbox_reportAt (k : Head) (f : RecordInbox → RecordInbox) (h : Head) : (s.updInbox k f).reportAt h = s.reportAt h := rfl
@[simp] theorem updInbox_calSet (k : Head) (f : RecordInbox → RecordInbox) (c : SetId) : (s.updInbox k f).calSet c = s.calSet c := rfl
@[simp] theorem updInbox_lane (k : Head) (f : RecordInbox → RecordInbox) (n : Lane) : (s.updInbox k f).lane n = s.lane n := rfl
@[simp] theorem updInbox_slot (k : Head) (f : RecordInbox → RecordInbox) (r : Requester) : (s.updInbox k f).slot r = s.slot r := rfl
@[simp] theorem updInbox_now (k : Head) (f : RecordInbox → RecordInbox) : (s.updInbox k f).now = s.now := rfl
@[simp] theorem updInbox_survey (k : Head) (f : RecordInbox → RecordInbox) : (s.updInbox k f).survey = s.survey := rfl

/-! ### updHead -/

@[simp] theorem updHead_pending (k : Head) (f : HeadState → HeadState) : (s.updHead k f).pending = s.pending := rfl
@[simp] theorem updHead_links (k : Head) (f : HeadState → HeadState) : (s.updHead k f).links = s.links := rfl
@[simp] theorem updHead_tide (k : Head) (f : HeadState → HeadState) : (s.updHead k f).tide = s.tide := rfl
@[simp] theorem updHead_cal (k : Head) (f : HeadState → HeadState) : (s.updHead k f).cal = s.cal := rfl
@[simp] theorem updHead_occ (k : Head) (f : HeadState → HeadState) : (s.updHead k f).occ = s.occ := rfl
@[simp] theorem updHead_drift (k : Head) (f : HeadState → HeadState) : (s.updHead k f).drift = s.drift := rfl
@[simp] theorem updHead_walker (k : Head) (f : HeadState → HeadState) : (s.updHead k f).walker = s.walker := rfl
@[simp] theorem updHead_order (k : Head) (f : HeadState → HeadState) : (s.updHead k f).order = s.order := rfl
@[simp] theorem updHead_port (k : Head) (f : HeadState → HeadState) : (s.updHead k f).port = s.port := rfl
@[simp] theorem updHead_ctrl (k : Head) (f : HeadState → HeadState) : (s.updHead k f).ctrl = s.ctrl := rfl
@[simp] theorem updHead_link (k : Head) (f : HeadState → HeadState) (h : Head) : (s.updHead k f).link h = s.link h := rfl
@[simp] theorem updHead_record (k : Head) (f : HeadState → HeadState) (h : Head) : (s.updHead k f).record h = s.record h := rfl
@[simp] theorem updHead_inbox (k : Head) (f : HeadState → HeadState) (h : Head) : (s.updHead k f).inbox h = s.inbox h := rfl
@[simp] theorem updHead_loopAt (k : Head) (f : HeadState → HeadState) (l : LoopId) : (s.updHead k f).loopAt l = s.loopAt l := rfl
@[simp] theorem updHead_reportAt (k : Head) (f : HeadState → HeadState) (h : Head) : (s.updHead k f).reportAt h = s.reportAt h := rfl
@[simp] theorem updHead_calSet (k : Head) (f : HeadState → HeadState) (c : SetId) : (s.updHead k f).calSet c = s.calSet c := rfl
@[simp] theorem updHead_lane (k : Head) (f : HeadState → HeadState) (n : Lane) : (s.updHead k f).lane n = s.lane n := rfl
@[simp] theorem updHead_slot (k : Head) (f : HeadState → HeadState) (r : Requester) : (s.updHead k f).slot r = s.slot r := rfl
@[simp] theorem updHead_now (k : Head) (f : HeadState → HeadState) : (s.updHead k f).now = s.now := rfl
@[simp] theorem updHead_survey (k : Head) (f : HeadState → HeadState) : (s.updHead k f).survey = s.survey := rfl

/-! ### updDownMsgs -/

@[simp] theorem updDownMsgs_pending (k : Head) (f : Nat → Nat) : (s.updDownMsgs k f).pending = s.pending := rfl
@[simp] theorem updDownMsgs_links (k : Head) (f : Nat → Nat) : (s.updDownMsgs k f).links = s.links := rfl
@[simp] theorem updDownMsgs_tide (k : Head) (f : Nat → Nat) : (s.updDownMsgs k f).tide = s.tide := rfl
@[simp] theorem updDownMsgs_cal (k : Head) (f : Nat → Nat) : (s.updDownMsgs k f).cal = s.cal := rfl
@[simp] theorem updDownMsgs_occ (k : Head) (f : Nat → Nat) : (s.updDownMsgs k f).occ = s.occ := rfl
@[simp] theorem updDownMsgs_drift (k : Head) (f : Nat → Nat) : (s.updDownMsgs k f).drift = s.drift := rfl
@[simp] theorem updDownMsgs_walker (k : Head) (f : Nat → Nat) : (s.updDownMsgs k f).walker = s.walker := rfl
@[simp] theorem updDownMsgs_order (k : Head) (f : Nat → Nat) : (s.updDownMsgs k f).order = s.order := rfl
@[simp] theorem updDownMsgs_port (k : Head) (f : Nat → Nat) : (s.updDownMsgs k f).port = s.port := rfl
@[simp] theorem updDownMsgs_ctrl (k : Head) (f : Nat → Nat) : (s.updDownMsgs k f).ctrl = s.ctrl := rfl
@[simp] theorem updDownMsgs_link (k : Head) (f : Nat → Nat) (h : Head) : (s.updDownMsgs k f).link h = s.link h := rfl
@[simp] theorem updDownMsgs_record (k : Head) (f : Nat → Nat) (h : Head) : (s.updDownMsgs k f).record h = s.record h := rfl
@[simp] theorem updDownMsgs_inbox (k : Head) (f : Nat → Nat) (h : Head) : (s.updDownMsgs k f).inbox h = s.inbox h := rfl
@[simp] theorem updDownMsgs_headState (k : Head) (f : Nat → Nat) (h : Head) : (s.updDownMsgs k f).headState h = s.headState h := rfl
@[simp] theorem updDownMsgs_loopAt (k : Head) (f : Nat → Nat) (l : LoopId) : (s.updDownMsgs k f).loopAt l = s.loopAt l := rfl
@[simp] theorem updDownMsgs_reportAt (k : Head) (f : Nat → Nat) (h : Head) : (s.updDownMsgs k f).reportAt h = s.reportAt h := rfl
@[simp] theorem updDownMsgs_calSet (k : Head) (f : Nat → Nat) (c : SetId) : (s.updDownMsgs k f).calSet c = s.calSet c := rfl
@[simp] theorem updDownMsgs_lane (k : Head) (f : Nat → Nat) (n : Lane) : (s.updDownMsgs k f).lane n = s.lane n := rfl
@[simp] theorem updDownMsgs_slot (k : Head) (f : Nat → Nat) (r : Requester) : (s.updDownMsgs k f).slot r = s.slot r := rfl
@[simp] theorem updDownMsgs_now (k : Head) (f : Nat → Nat) : (s.updDownMsgs k f).now = s.now := rfl
@[simp] theorem updDownMsgs_survey (k : Head) (f : Nat → Nat) : (s.updDownMsgs k f).survey = s.survey := rfl

/-! ### updLoop -/

@[simp] theorem updLoop_pending (k : LoopId) (f : Loop → Loop) : (s.updLoop k f).pending = s.pending := rfl
@[simp] theorem updLoop_links (k : LoopId) (f : Loop → Loop) : (s.updLoop k f).links = s.links := rfl
@[simp] theorem updLoop_corr (k : LoopId) (f : Loop → Loop) : (s.updLoop k f).corr = s.corr := rfl
@[simp] theorem updLoop_tide (k : LoopId) (f : Loop → Loop) : (s.updLoop k f).tide = s.tide := rfl
@[simp] theorem updLoop_cal (k : LoopId) (f : Loop → Loop) : (s.updLoop k f).cal = s.cal := rfl
@[simp] theorem updLoop_occ (k : LoopId) (f : Loop → Loop) : (s.updLoop k f).occ = s.occ := rfl
@[simp] theorem updLoop_walker (k : LoopId) (f : Loop → Loop) : (s.updLoop k f).walker = s.walker := rfl
@[simp] theorem updLoop_order (k : LoopId) (f : Loop → Loop) : (s.updLoop k f).order = s.order := rfl
@[simp] theorem updLoop_port (k : LoopId) (f : Loop → Loop) : (s.updLoop k f).port = s.port := rfl
@[simp] theorem updLoop_ctrl (k : LoopId) (f : Loop → Loop) : (s.updLoop k f).ctrl = s.ctrl := rfl
@[simp] theorem updLoop_link (k : LoopId) (f : Loop → Loop) (h : Head) : (s.updLoop k f).link h = s.link h := rfl
@[simp] theorem updLoop_record (k : LoopId) (f : Loop → Loop) (h : Head) : (s.updLoop k f).record h = s.record h := rfl
@[simp] theorem updLoop_inbox (k : LoopId) (f : Loop → Loop) (h : Head) : (s.updLoop k f).inbox h = s.inbox h := rfl
@[simp] theorem updLoop_headState (k : LoopId) (f : Loop → Loop) (h : Head) : (s.updLoop k f).headState h = s.headState h := rfl
@[simp] theorem updLoop_reportAt (k : LoopId) (f : Loop → Loop) (h : Head) : (s.updLoop k f).reportAt h = s.reportAt h := rfl
@[simp] theorem updLoop_calSet (k : LoopId) (f : Loop → Loop) (c : SetId) : (s.updLoop k f).calSet c = s.calSet c := rfl
@[simp] theorem updLoop_lane (k : LoopId) (f : Loop → Loop) (n : Lane) : (s.updLoop k f).lane n = s.lane n := rfl
@[simp] theorem updLoop_slot (k : LoopId) (f : Loop → Loop) (r : Requester) : (s.updLoop k f).slot r = s.slot r := rfl
@[simp] theorem updLoop_now (k : LoopId) (f : Loop → Loop) : (s.updLoop k f).now = s.now := rfl
@[simp] theorem updLoop_survey (k : LoopId) (f : Loop → Loop) : (s.updLoop k f).survey = s.survey := rfl

/-! ### mapLoops -/

@[simp] theorem mapLoops_pending (f : Loop → Loop) : (s.mapLoops f).pending = s.pending := rfl
@[simp] theorem mapLoops_links (f : Loop → Loop) : (s.mapLoops f).links = s.links := rfl
@[simp] theorem mapLoops_corr (f : Loop → Loop) : (s.mapLoops f).corr = s.corr := rfl
@[simp] theorem mapLoops_tide (f : Loop → Loop) : (s.mapLoops f).tide = s.tide := rfl
@[simp] theorem mapLoops_cal (f : Loop → Loop) : (s.mapLoops f).cal = s.cal := rfl
@[simp] theorem mapLoops_occ (f : Loop → Loop) : (s.mapLoops f).occ = s.occ := rfl
@[simp] theorem mapLoops_walker (f : Loop → Loop) : (s.mapLoops f).walker = s.walker := rfl
@[simp] theorem mapLoops_order (f : Loop → Loop) : (s.mapLoops f).order = s.order := rfl
@[simp] theorem mapLoops_port (f : Loop → Loop) : (s.mapLoops f).port = s.port := rfl
@[simp] theorem mapLoops_ctrl (f : Loop → Loop) : (s.mapLoops f).ctrl = s.ctrl := rfl
@[simp] theorem mapLoops_link (f : Loop → Loop) (h : Head) : (s.mapLoops f).link h = s.link h := rfl
@[simp] theorem mapLoops_record (f : Loop → Loop) (h : Head) : (s.mapLoops f).record h = s.record h := rfl
@[simp] theorem mapLoops_inbox (f : Loop → Loop) (h : Head) : (s.mapLoops f).inbox h = s.inbox h := rfl
@[simp] theorem mapLoops_headState (f : Loop → Loop) (h : Head) : (s.mapLoops f).headState h = s.headState h := rfl
@[simp] theorem mapLoops_reportAt (f : Loop → Loop) (h : Head) : (s.mapLoops f).reportAt h = s.reportAt h := rfl
@[simp] theorem mapLoops_calSet (f : Loop → Loop) (c : SetId) : (s.mapLoops f).calSet c = s.calSet c := rfl
@[simp] theorem mapLoops_lane (f : Loop → Loop) (n : Lane) : (s.mapLoops f).lane n = s.lane n := rfl
@[simp] theorem mapLoops_slot (f : Loop → Loop) (r : Requester) : (s.mapLoops f).slot r = s.slot r := rfl
@[simp] theorem mapLoops_now (f : Loop → Loop) : (s.mapLoops f).now = s.now := rfl
@[simp] theorem mapLoops_survey (f : Loop → Loop) : (s.mapLoops f).survey = s.survey := rfl

/-! ### setReport -/

@[simp] theorem setReport_pending (k : Head) (p : Option Report) : (s.setReport k p).pending = s.pending := rfl
@[simp] theorem setReport_links (k : Head) (p : Option Report) : (s.setReport k p).links = s.links := rfl
@[simp] theorem setReport_corr (k : Head) (p : Option Report) : (s.setReport k p).corr = s.corr := rfl
@[simp] theorem setReport_tide (k : Head) (p : Option Report) : (s.setReport k p).tide = s.tide := rfl
@[simp] theorem setReport_cal (k : Head) (p : Option Report) : (s.setReport k p).cal = s.cal := rfl
@[simp] theorem setReport_occ (k : Head) (p : Option Report) : (s.setReport k p).occ = s.occ := rfl
@[simp] theorem setReport_walker (k : Head) (p : Option Report) : (s.setReport k p).walker = s.walker := rfl
@[simp] theorem setReport_order (k : Head) (p : Option Report) : (s.setReport k p).order = s.order := rfl
@[simp] theorem setReport_port (k : Head) (p : Option Report) : (s.setReport k p).port = s.port := rfl
@[simp] theorem setReport_ctrl (k : Head) (p : Option Report) : (s.setReport k p).ctrl = s.ctrl := rfl
@[simp] theorem setReport_link (k : Head) (p : Option Report) (h : Head) : (s.setReport k p).link h = s.link h := rfl
@[simp] theorem setReport_record (k : Head) (p : Option Report) (h : Head) : (s.setReport k p).record h = s.record h := rfl
@[simp] theorem setReport_inbox (k : Head) (p : Option Report) (h : Head) : (s.setReport k p).inbox h = s.inbox h := rfl
@[simp] theorem setReport_headState (k : Head) (p : Option Report) (h : Head) : (s.setReport k p).headState h = s.headState h := rfl
@[simp] theorem setReport_loopAt (k : Head) (p : Option Report) (l : LoopId) : (s.setReport k p).loopAt l = s.loopAt l := rfl
@[simp] theorem setReport_calSet (k : Head) (p : Option Report) (c : SetId) : (s.setReport k p).calSet c = s.calSet c := rfl
@[simp] theorem setReport_lane (k : Head) (p : Option Report) (n : Lane) : (s.setReport k p).lane n = s.lane n := rfl
@[simp] theorem setReport_slot (k : Head) (p : Option Report) (r : Requester) : (s.setReport k p).slot r = s.slot r := rfl
@[simp] theorem setReport_now (k : Head) (p : Option Report) : (s.setReport k p).now = s.now := rfl
@[simp] theorem setReport_survey (k : Head) (p : Option Report) : (s.setReport k p).survey = s.survey := rfl

/-! ### updCalSet -/

@[simp] theorem updCalSet_pending (k : SetId) (f : CalSet → CalSet) : (s.updCalSet k f).pending = s.pending := rfl
@[simp] theorem updCalSet_links (k : SetId) (f : CalSet → CalSet) : (s.updCalSet k f).links = s.links := rfl
@[simp] theorem updCalSet_corr (k : SetId) (f : CalSet → CalSet) : (s.updCalSet k f).corr = s.corr := rfl
@[simp] theorem updCalSet_tide (k : SetId) (f : CalSet → CalSet) : (s.updCalSet k f).tide = s.tide := rfl
@[simp] theorem updCalSet_occ (k : SetId) (f : CalSet → CalSet) : (s.updCalSet k f).occ = s.occ := rfl
@[simp] theorem updCalSet_drift (k : SetId) (f : CalSet → CalSet) : (s.updCalSet k f).drift = s.drift := rfl
@[simp] theorem updCalSet_walker (k : SetId) (f : CalSet → CalSet) : (s.updCalSet k f).walker = s.walker := rfl
@[simp] theorem updCalSet_order (k : SetId) (f : CalSet → CalSet) : (s.updCalSet k f).order = s.order := rfl
@[simp] theorem updCalSet_port (k : SetId) (f : CalSet → CalSet) : (s.updCalSet k f).port = s.port := rfl
@[simp] theorem updCalSet_ctrl (k : SetId) (f : CalSet → CalSet) : (s.updCalSet k f).ctrl = s.ctrl := rfl
@[simp] theorem updCalSet_link (k : SetId) (f : CalSet → CalSet) (h : Head) : (s.updCalSet k f).link h = s.link h := rfl
@[simp] theorem updCalSet_record (k : SetId) (f : CalSet → CalSet) (h : Head) : (s.updCalSet k f).record h = s.record h := rfl
@[simp] theorem updCalSet_inbox (k : SetId) (f : CalSet → CalSet) (h : Head) : (s.updCalSet k f).inbox h = s.inbox h := rfl
@[simp] theorem updCalSet_headState (k : SetId) (f : CalSet → CalSet) (h : Head) : (s.updCalSet k f).headState h = s.headState h := rfl
@[simp] theorem updCalSet_loopAt (k : SetId) (f : CalSet → CalSet) (l : LoopId) : (s.updCalSet k f).loopAt l = s.loopAt l := rfl
@[simp] theorem updCalSet_reportAt (k : SetId) (f : CalSet → CalSet) (h : Head) : (s.updCalSet k f).reportAt h = s.reportAt h := rfl
@[simp] theorem updCalSet_lane (k : SetId) (f : CalSet → CalSet) (n : Lane) : (s.updCalSet k f).lane n = s.lane n := rfl
@[simp] theorem updCalSet_slot (k : SetId) (f : CalSet → CalSet) (r : Requester) : (s.updCalSet k f).slot r = s.slot r := rfl
@[simp] theorem updCalSet_now (k : SetId) (f : CalSet → CalSet) : (s.updCalSet k f).now = s.now := rfl
@[simp] theorem updCalSet_survey (k : SetId) (f : CalSet → CalSet) : (s.updCalSet k f).survey = s.survey := rfl

/-! ### setLoad -/

@[simp] theorem setLoad_pending (p : Option CalLoad) : (s.setLoad p).pending = s.pending := rfl
@[simp] theorem setLoad_links (p : Option CalLoad) : (s.setLoad p).links = s.links := rfl
@[simp] theorem setLoad_corr (p : Option CalLoad) : (s.setLoad p).corr = s.corr := rfl
@[simp] theorem setLoad_tide (p : Option CalLoad) : (s.setLoad p).tide = s.tide := rfl
@[simp] theorem setLoad_occ (p : Option CalLoad) : (s.setLoad p).occ = s.occ := rfl
@[simp] theorem setLoad_drift (p : Option CalLoad) : (s.setLoad p).drift = s.drift := rfl
@[simp] theorem setLoad_walker (p : Option CalLoad) : (s.setLoad p).walker = s.walker := rfl
@[simp] theorem setLoad_order (p : Option CalLoad) : (s.setLoad p).order = s.order := rfl
@[simp] theorem setLoad_port (p : Option CalLoad) : (s.setLoad p).port = s.port := rfl
@[simp] theorem setLoad_ctrl (p : Option CalLoad) : (s.setLoad p).ctrl = s.ctrl := rfl
@[simp] theorem setLoad_link (p : Option CalLoad) (h : Head) : (s.setLoad p).link h = s.link h := rfl
@[simp] theorem setLoad_record (p : Option CalLoad) (h : Head) : (s.setLoad p).record h = s.record h := rfl
@[simp] theorem setLoad_inbox (p : Option CalLoad) (h : Head) : (s.setLoad p).inbox h = s.inbox h := rfl
@[simp] theorem setLoad_headState (p : Option CalLoad) (h : Head) : (s.setLoad p).headState h = s.headState h := rfl
@[simp] theorem setLoad_loopAt (p : Option CalLoad) (l : LoopId) : (s.setLoad p).loopAt l = s.loopAt l := rfl
@[simp] theorem setLoad_reportAt (p : Option CalLoad) (h : Head) : (s.setLoad p).reportAt h = s.reportAt h := rfl
@[simp] theorem setLoad_calSet (p : Option CalLoad) (c : SetId) : (s.setLoad p).calSet c = s.calSet c := rfl
@[simp] theorem setLoad_lane (p : Option CalLoad) (n : Lane) : (s.setLoad p).lane n = s.lane n := rfl
@[simp] theorem setLoad_slot (p : Option CalLoad) (r : Requester) : (s.setLoad p).slot r = s.slot r := rfl
@[simp] theorem setLoad_now (p : Option CalLoad) : (s.setLoad p).now = s.now := rfl
@[simp] theorem setLoad_survey (p : Option CalLoad) : (s.setLoad p).survey = s.survey := rfl

/-! ### updLane -/

@[simp] theorem updLane_pending (k : Lane) (f : LaneRecord → LaneRecord) : (s.updLane k f).pending = s.pending := rfl
@[simp] theorem updLane_links (k : Lane) (f : LaneRecord → LaneRecord) : (s.updLane k f).links = s.links := rfl
@[simp] theorem updLane_corr (k : Lane) (f : LaneRecord → LaneRecord) : (s.updLane k f).corr = s.corr := rfl
@[simp] theorem updLane_tide (k : Lane) (f : LaneRecord → LaneRecord) : (s.updLane k f).tide = s.tide := rfl
@[simp] theorem updLane_cal (k : Lane) (f : LaneRecord → LaneRecord) : (s.updLane k f).cal = s.cal := rfl
@[simp] theorem updLane_occ (k : Lane) (f : LaneRecord → LaneRecord) : (s.updLane k f).occ = s.occ := rfl
@[simp] theorem updLane_drift (k : Lane) (f : LaneRecord → LaneRecord) : (s.updLane k f).drift = s.drift := rfl
@[simp] theorem updLane_order (k : Lane) (f : LaneRecord → LaneRecord) : (s.updLane k f).order = s.order := rfl
@[simp] theorem updLane_port (k : Lane) (f : LaneRecord → LaneRecord) : (s.updLane k f).port = s.port := rfl
@[simp] theorem updLane_ctrl (k : Lane) (f : LaneRecord → LaneRecord) : (s.updLane k f).ctrl = s.ctrl := rfl
@[simp] theorem updLane_link (k : Lane) (f : LaneRecord → LaneRecord) (h : Head) : (s.updLane k f).link h = s.link h := rfl
@[simp] theorem updLane_record (k : Lane) (f : LaneRecord → LaneRecord) (h : Head) : (s.updLane k f).record h = s.record h := rfl
@[simp] theorem updLane_inbox (k : Lane) (f : LaneRecord → LaneRecord) (h : Head) : (s.updLane k f).inbox h = s.inbox h := rfl
@[simp] theorem updLane_headState (k : Lane) (f : LaneRecord → LaneRecord) (h : Head) : (s.updLane k f).headState h = s.headState h := rfl
@[simp] theorem updLane_loopAt (k : Lane) (f : LaneRecord → LaneRecord) (l : LoopId) : (s.updLane k f).loopAt l = s.loopAt l := rfl
@[simp] theorem updLane_reportAt (k : Lane) (f : LaneRecord → LaneRecord) (h : Head) : (s.updLane k f).reportAt h = s.reportAt h := rfl
@[simp] theorem updLane_calSet (k : Lane) (f : LaneRecord → LaneRecord) (c : SetId) : (s.updLane k f).calSet c = s.calSet c := rfl
@[simp] theorem updLane_slot (k : Lane) (f : LaneRecord → LaneRecord) (r : Requester) : (s.updLane k f).slot r = s.slot r := rfl
@[simp] theorem updLane_now (k : Lane) (f : LaneRecord → LaneRecord) : (s.updLane k f).now = s.now := rfl
@[simp] theorem updLane_survey (k : Lane) (f : LaneRecord → LaneRecord) : (s.updLane k f).survey = s.survey := rfl

/-! ### setLook -/

@[simp] theorem setLook_pending (p : Option Look) : (s.setLook p).pending = s.pending := rfl
@[simp] theorem setLook_links (p : Option Look) : (s.setLook p).links = s.links := rfl
@[simp] theorem setLook_corr (p : Option Look) : (s.setLook p).corr = s.corr := rfl
@[simp] theorem setLook_tide (p : Option Look) : (s.setLook p).tide = s.tide := rfl
@[simp] theorem setLook_cal (p : Option Look) : (s.setLook p).cal = s.cal := rfl
@[simp] theorem setLook_occ (p : Option Look) : (s.setLook p).occ = s.occ := rfl
@[simp] theorem setLook_drift (p : Option Look) : (s.setLook p).drift = s.drift := rfl
@[simp] theorem setLook_order (p : Option Look) : (s.setLook p).order = s.order := rfl
@[simp] theorem setLook_port (p : Option Look) : (s.setLook p).port = s.port := rfl
@[simp] theorem setLook_ctrl (p : Option Look) : (s.setLook p).ctrl = s.ctrl := rfl
@[simp] theorem setLook_link (p : Option Look) (h : Head) : (s.setLook p).link h = s.link h := rfl
@[simp] theorem setLook_record (p : Option Look) (h : Head) : (s.setLook p).record h = s.record h := rfl
@[simp] theorem setLook_inbox (p : Option Look) (h : Head) : (s.setLook p).inbox h = s.inbox h := rfl
@[simp] theorem setLook_headState (p : Option Look) (h : Head) : (s.setLook p).headState h = s.headState h := rfl
@[simp] theorem setLook_loopAt (p : Option Look) (l : LoopId) : (s.setLook p).loopAt l = s.loopAt l := rfl
@[simp] theorem setLook_reportAt (p : Option Look) (h : Head) : (s.setLook p).reportAt h = s.reportAt h := rfl
@[simp] theorem setLook_calSet (p : Option Look) (c : SetId) : (s.setLook p).calSet c = s.calSet c := rfl
@[simp] theorem setLook_lane (p : Option Look) (n : Lane) : (s.setLook p).lane n = s.lane n := rfl
@[simp] theorem setLook_slot (p : Option Look) (r : Requester) : (s.setLook p).slot r = s.slot r := rfl
@[simp] theorem setLook_now (p : Option Look) : (s.setLook p).now = s.now := rfl
@[simp] theorem setLook_survey (p : Option Look) : (s.setLook p).survey = s.survey := rfl

/-! ### setSlot -/

@[simp] theorem setSlot_pending (k : Requester) (t : Option Transfer) : (s.setSlot k t).pending = s.pending := rfl
@[simp] theorem setSlot_links (k : Requester) (t : Option Transfer) : (s.setSlot k t).links = s.links := rfl
@[simp] theorem setSlot_corr (k : Requester) (t : Option Transfer) : (s.setSlot k t).corr = s.corr := rfl
@[simp] theorem setSlot_tide (k : Requester) (t : Option Transfer) : (s.setSlot k t).tide = s.tide := rfl
@[simp] theorem setSlot_cal (k : Requester) (t : Option Transfer) : (s.setSlot k t).cal = s.cal := rfl
@[simp] theorem setSlot_occ (k : Requester) (t : Option Transfer) : (s.setSlot k t).occ = s.occ := rfl
@[simp] theorem setSlot_drift (k : Requester) (t : Option Transfer) : (s.setSlot k t).drift = s.drift := rfl
@[simp] theorem setSlot_walker (k : Requester) (t : Option Transfer) : (s.setSlot k t).walker = s.walker := rfl
@[simp] theorem setSlot_order (k : Requester) (t : Option Transfer) : (s.setSlot k t).order = s.order := rfl
@[simp] theorem setSlot_ctrl (k : Requester) (t : Option Transfer) : (s.setSlot k t).ctrl = s.ctrl := rfl
@[simp] theorem setSlot_link (k : Requester) (t : Option Transfer) (h : Head) : (s.setSlot k t).link h = s.link h := rfl
@[simp] theorem setSlot_record (k : Requester) (t : Option Transfer) (h : Head) : (s.setSlot k t).record h = s.record h := rfl
@[simp] theorem setSlot_inbox (k : Requester) (t : Option Transfer) (h : Head) : (s.setSlot k t).inbox h = s.inbox h := rfl
@[simp] theorem setSlot_headState (k : Requester) (t : Option Transfer) (h : Head) : (s.setSlot k t).headState h = s.headState h := rfl
@[simp] theorem setSlot_loopAt (k : Requester) (t : Option Transfer) (l : LoopId) : (s.setSlot k t).loopAt l = s.loopAt l := rfl
@[simp] theorem setSlot_reportAt (k : Requester) (t : Option Transfer) (h : Head) : (s.setSlot k t).reportAt h = s.reportAt h := rfl
@[simp] theorem setSlot_calSet (k : Requester) (t : Option Transfer) (c : SetId) : (s.setSlot k t).calSet c = s.calSet c := rfl
@[simp] theorem setSlot_lane (k : Requester) (t : Option Transfer) (n : Lane) : (s.setSlot k t).lane n = s.lane n := rfl
@[simp] theorem setSlot_now (k : Requester) (t : Option Transfer) : (s.setSlot k t).now = s.now := rfl
@[simp] theorem setSlot_survey (k : Requester) (t : Option Transfer) : (s.setSlot k t).survey = s.survey := rfl

/-! ### setGrant -/

@[simp] theorem setGrant_pending (g : Option Grant) : (s.setGrant g).pending = s.pending := rfl
@[simp] theorem setGrant_links (g : Option Grant) : (s.setGrant g).links = s.links := rfl
@[simp] theorem setGrant_corr (g : Option Grant) : (s.setGrant g).corr = s.corr := rfl
@[simp] theorem setGrant_tide (g : Option Grant) : (s.setGrant g).tide = s.tide := rfl
@[simp] theorem setGrant_cal (g : Option Grant) : (s.setGrant g).cal = s.cal := rfl
@[simp] theorem setGrant_occ (g : Option Grant) : (s.setGrant g).occ = s.occ := rfl
@[simp] theorem setGrant_drift (g : Option Grant) : (s.setGrant g).drift = s.drift := rfl
@[simp] theorem setGrant_walker (g : Option Grant) : (s.setGrant g).walker = s.walker := rfl
@[simp] theorem setGrant_order (g : Option Grant) : (s.setGrant g).order = s.order := rfl
@[simp] theorem setGrant_ctrl (g : Option Grant) : (s.setGrant g).ctrl = s.ctrl := rfl
@[simp] theorem setGrant_link (g : Option Grant) (h : Head) : (s.setGrant g).link h = s.link h := rfl
@[simp] theorem setGrant_record (g : Option Grant) (h : Head) : (s.setGrant g).record h = s.record h := rfl
@[simp] theorem setGrant_inbox (g : Option Grant) (h : Head) : (s.setGrant g).inbox h = s.inbox h := rfl
@[simp] theorem setGrant_headState (g : Option Grant) (h : Head) : (s.setGrant g).headState h = s.headState h := rfl
@[simp] theorem setGrant_loopAt (g : Option Grant) (l : LoopId) : (s.setGrant g).loopAt l = s.loopAt l := rfl
@[simp] theorem setGrant_reportAt (g : Option Grant) (h : Head) : (s.setGrant g).reportAt h = s.reportAt h := rfl
@[simp] theorem setGrant_calSet (g : Option Grant) (c : SetId) : (s.setGrant g).calSet c = s.calSet c := rfl
@[simp] theorem setGrant_lane (g : Option Grant) (n : Lane) : (s.setGrant g).lane n = s.lane n := rfl
@[simp] theorem setGrant_slot (g : Option Grant) (r : Requester) : (s.setGrant g).slot r = s.slot r := rfl
@[simp] theorem setGrant_now (g : Option Grant) : (s.setGrant g).now = s.now := rfl
@[simp] theorem setGrant_survey (g : Option Grant) : (s.setGrant g).survey = s.survey := rfl

/-! ### setEvaluator -/

@[simp] theorem setEvaluator_pending (e : Option Evaluator) : (s.setEvaluator e).pending = s.pending := rfl
@[simp] theorem setEvaluator_links (e : Option Evaluator) : (s.setEvaluator e).links = s.links := rfl
@[simp] theorem setEvaluator_tide (e : Option Evaluator) : (s.setEvaluator e).tide = s.tide := rfl
@[simp] theorem setEvaluator_cal (e : Option Evaluator) : (s.setEvaluator e).cal = s.cal := rfl
@[simp] theorem setEvaluator_occ (e : Option Evaluator) : (s.setEvaluator e).occ = s.occ := rfl
@[simp] theorem setEvaluator_drift (e : Option Evaluator) : (s.setEvaluator e).drift = s.drift := rfl
@[simp] theorem setEvaluator_walker (e : Option Evaluator) : (s.setEvaluator e).walker = s.walker := rfl
@[simp] theorem setEvaluator_order (e : Option Evaluator) : (s.setEvaluator e).order = s.order := rfl
@[simp] theorem setEvaluator_port (e : Option Evaluator) : (s.setEvaluator e).port = s.port := rfl
@[simp] theorem setEvaluator_ctrl (e : Option Evaluator) : (s.setEvaluator e).ctrl = s.ctrl := rfl
@[simp] theorem setEvaluator_link (e : Option Evaluator) (h : Head) : (s.setEvaluator e).link h = s.link h := rfl
@[simp] theorem setEvaluator_record (e : Option Evaluator) (h : Head) : (s.setEvaluator e).record h = s.record h := rfl
@[simp] theorem setEvaluator_inbox (e : Option Evaluator) (h : Head) : (s.setEvaluator e).inbox h = s.inbox h := rfl
@[simp] theorem setEvaluator_headState (e : Option Evaluator) (h : Head) : (s.setEvaluator e).headState h = s.headState h := rfl
@[simp] theorem setEvaluator_loopAt (e : Option Evaluator) (l : LoopId) : (s.setEvaluator e).loopAt l = s.loopAt l := rfl
@[simp] theorem setEvaluator_reportAt (e : Option Evaluator) (h : Head) : (s.setEvaluator e).reportAt h = s.reportAt h := rfl
@[simp] theorem setEvaluator_calSet (e : Option Evaluator) (c : SetId) : (s.setEvaluator e).calSet c = s.calSet c := rfl
@[simp] theorem setEvaluator_lane (e : Option Evaluator) (n : Lane) : (s.setEvaluator e).lane n = s.lane n := rfl
@[simp] theorem setEvaluator_slot (e : Option Evaluator) (r : Requester) : (s.setEvaluator e).slot r = s.slot r := rfl
@[simp] theorem setEvaluator_now (e : Option Evaluator) : (s.setEvaluator e).now = s.now := rfl
@[simp] theorem setEvaluator_survey (e : Option Evaluator) : (s.setEvaluator e).survey = s.survey := rfl

/-! ### setCache -/

@[simp] theorem setCache_pending (c' : List CacheEntry) : (s.setCache c').pending = s.pending := rfl
@[simp] theorem setCache_links (c' : List CacheEntry) : (s.setCache c').links = s.links := rfl
@[simp] theorem setCache_corr (c' : List CacheEntry) : (s.setCache c').corr = s.corr := rfl
@[simp] theorem setCache_cal (c' : List CacheEntry) : (s.setCache c').cal = s.cal := rfl
@[simp] theorem setCache_occ (c' : List CacheEntry) : (s.setCache c').occ = s.occ := rfl
@[simp] theorem setCache_drift (c' : List CacheEntry) : (s.setCache c').drift = s.drift := rfl
@[simp] theorem setCache_walker (c' : List CacheEntry) : (s.setCache c').walker = s.walker := rfl
@[simp] theorem setCache_order (c' : List CacheEntry) : (s.setCache c').order = s.order := rfl
@[simp] theorem setCache_port (c' : List CacheEntry) : (s.setCache c').port = s.port := rfl
@[simp] theorem setCache_ctrl (c' : List CacheEntry) : (s.setCache c').ctrl = s.ctrl := rfl
@[simp] theorem setCache_link (c' : List CacheEntry) (h : Head) : (s.setCache c').link h = s.link h := rfl
@[simp] theorem setCache_record (c' : List CacheEntry) (h : Head) : (s.setCache c').record h = s.record h := rfl
@[simp] theorem setCache_inbox (c' : List CacheEntry) (h : Head) : (s.setCache c').inbox h = s.inbox h := rfl
@[simp] theorem setCache_headState (c' : List CacheEntry) (h : Head) : (s.setCache c').headState h = s.headState h := rfl
@[simp] theorem setCache_loopAt (c' : List CacheEntry) (l : LoopId) : (s.setCache c').loopAt l = s.loopAt l := rfl
@[simp] theorem setCache_reportAt (c' : List CacheEntry) (h : Head) : (s.setCache c').reportAt h = s.reportAt h := rfl
@[simp] theorem setCache_calSet (c' : List CacheEntry) (c : SetId) : (s.setCache c').calSet c = s.calSet c := rfl
@[simp] theorem setCache_lane (c' : List CacheEntry) (n : Lane) : (s.setCache c').lane n = s.lane n := rfl
@[simp] theorem setCache_slot (c' : List CacheEntry) (r : Requester) : (s.setCache c').slot r = s.slot r := rfl
@[simp] theorem setCache_now (c' : List CacheEntry) : (s.setCache c').now = s.now := rfl
@[simp] theorem setCache_survey (c' : List CacheEntry) : (s.setCache c').survey = s.survey := rfl

/-! ### setLookup -/

@[simp] theorem setLookup_pending (p : Option Lookup) : (s.setLookup p).pending = s.pending := rfl
@[simp] theorem setLookup_links (p : Option Lookup) : (s.setLookup p).links = s.links := rfl
@[simp] theorem setLookup_corr (p : Option Lookup) : (s.setLookup p).corr = s.corr := rfl
@[simp] theorem setLookup_cal (p : Option Lookup) : (s.setLookup p).cal = s.cal := rfl
@[simp] theorem setLookup_occ (p : Option Lookup) : (s.setLookup p).occ = s.occ := rfl
@[simp] theorem setLookup_drift (p : Option Lookup) : (s.setLookup p).drift = s.drift := rfl
@[simp] theorem setLookup_walker (p : Option Lookup) : (s.setLookup p).walker = s.walker := rfl
@[simp] theorem setLookup_order (p : Option Lookup) : (s.setLookup p).order = s.order := rfl
@[simp] theorem setLookup_port (p : Option Lookup) : (s.setLookup p).port = s.port := rfl
@[simp] theorem setLookup_ctrl (p : Option Lookup) : (s.setLookup p).ctrl = s.ctrl := rfl
@[simp] theorem setLookup_link (p : Option Lookup) (h : Head) : (s.setLookup p).link h = s.link h := rfl
@[simp] theorem setLookup_record (p : Option Lookup) (h : Head) : (s.setLookup p).record h = s.record h := rfl
@[simp] theorem setLookup_inbox (p : Option Lookup) (h : Head) : (s.setLookup p).inbox h = s.inbox h := rfl
@[simp] theorem setLookup_headState (p : Option Lookup) (h : Head) : (s.setLookup p).headState h = s.headState h := rfl
@[simp] theorem setLookup_loopAt (p : Option Lookup) (l : LoopId) : (s.setLookup p).loopAt l = s.loopAt l := rfl
@[simp] theorem setLookup_reportAt (p : Option Lookup) (h : Head) : (s.setLookup p).reportAt h = s.reportAt h := rfl
@[simp] theorem setLookup_calSet (p : Option Lookup) (c : SetId) : (s.setLookup p).calSet c = s.calSet c := rfl
@[simp] theorem setLookup_lane (p : Option Lookup) (n : Lane) : (s.setLookup p).lane n = s.lane n := rfl
@[simp] theorem setLookup_slot (p : Option Lookup) (r : Requester) : (s.setLookup p).slot r = s.slot r := rfl
@[simp] theorem setLookup_now (p : Option Lookup) : (s.setLookup p).now = s.now := rfl
@[simp] theorem setLookup_survey (p : Option Lookup) : (s.setLookup p).survey = s.survey := rfl

/-! ### endScan -/

@[simp] theorem endScan_pending : s.endScan.pending = s.pending := rfl
@[simp] theorem endScan_links : s.endScan.links = s.links := rfl
@[simp] theorem endScan_corr : s.endScan.corr = s.corr := rfl
@[simp] theorem endScan_cal : s.endScan.cal = s.cal := rfl
@[simp] theorem endScan_occ : s.endScan.occ = s.occ := rfl
@[simp] theorem endScan_drift : s.endScan.drift = s.drift := rfl
@[simp] theorem endScan_walker : s.endScan.walker = s.walker := rfl
@[simp] theorem endScan_order : s.endScan.order = s.order := rfl
@[simp] theorem endScan_port : s.endScan.port = s.port := rfl
@[simp] theorem endScan_ctrl : s.endScan.ctrl = s.ctrl := rfl
@[simp] theorem endScan_link (h : Head) : s.endScan.link h = s.link h := rfl
@[simp] theorem endScan_record (h : Head) : s.endScan.record h = s.record h := rfl
@[simp] theorem endScan_inbox (h : Head) : s.endScan.inbox h = s.inbox h := rfl
@[simp] theorem endScan_headState (h : Head) : s.endScan.headState h = s.headState h := rfl
@[simp] theorem endScan_loopAt (l : LoopId) : s.endScan.loopAt l = s.loopAt l := rfl
@[simp] theorem endScan_reportAt (h : Head) : s.endScan.reportAt h = s.reportAt h := rfl
@[simp] theorem endScan_calSet (c : SetId) : s.endScan.calSet c = s.calSet c := rfl
@[simp] theorem endScan_lane (n : Lane) : s.endScan.lane n = s.lane n := rfl
@[simp] theorem endScan_slot (r : Requester) : s.endScan.slot r = s.slot r := rfl
@[simp] theorem endScan_now : s.endScan.now = s.now := rfl
@[simp] theorem endScan_survey : s.endScan.survey = s.survey := rfl

/-! ### changeTable -/

@[simp] theorem changeTable_pending (t : Option TideTable) : (s.changeTable t).pending = s.pending := rfl
@[simp] theorem changeTable_links (t : Option TideTable) : (s.changeTable t).links = s.links := rfl
@[simp] theorem changeTable_corr (t : Option TideTable) : (s.changeTable t).corr = s.corr := rfl
@[simp] theorem changeTable_cal (t : Option TideTable) : (s.changeTable t).cal = s.cal := rfl
@[simp] theorem changeTable_occ (t : Option TideTable) : (s.changeTable t).occ = s.occ := rfl
@[simp] theorem changeTable_drift (t : Option TideTable) : (s.changeTable t).drift = s.drift := rfl
@[simp] theorem changeTable_walker (t : Option TideTable) : (s.changeTable t).walker = s.walker := rfl
@[simp] theorem changeTable_order (t : Option TideTable) : (s.changeTable t).order = s.order := rfl
@[simp] theorem changeTable_port (t : Option TideTable) : (s.changeTable t).port = s.port := rfl
@[simp] theorem changeTable_ctrl (t : Option TideTable) : (s.changeTable t).ctrl = s.ctrl := rfl
@[simp] theorem changeTable_link (t : Option TideTable) (h : Head) : (s.changeTable t).link h = s.link h := rfl
@[simp] theorem changeTable_record (t : Option TideTable) (h : Head) : (s.changeTable t).record h = s.record h := rfl
@[simp] theorem changeTable_inbox (t : Option TideTable) (h : Head) : (s.changeTable t).inbox h = s.inbox h := rfl
@[simp] theorem changeTable_headState (t : Option TideTable) (h : Head) : (s.changeTable t).headState h = s.headState h := rfl
@[simp] theorem changeTable_loopAt (t : Option TideTable) (l : LoopId) : (s.changeTable t).loopAt l = s.loopAt l := rfl
@[simp] theorem changeTable_reportAt (t : Option TideTable) (h : Head) : (s.changeTable t).reportAt h = s.reportAt h := rfl
@[simp] theorem changeTable_calSet (t : Option TideTable) (c : SetId) : (s.changeTable t).calSet c = s.calSet c := rfl
@[simp] theorem changeTable_lane (t : Option TideTable) (n : Lane) : (s.changeTable t).lane n = s.lane n := rfl
@[simp] theorem changeTable_slot (t : Option TideTable) (r : Requester) : (s.changeTable t).slot r = s.slot r := rfl
@[simp] theorem changeTable_now (t : Option TideTable) : (s.changeTable t).now = s.now := rfl
@[simp] theorem changeTable_survey (t : Option TideTable) : (s.changeTable t).survey = s.survey := rfl

/-! ### freeTideSlot -/

@[simp] theorem freeTideSlot_pending : s.freeTideSlot.pending = s.pending := rfl
@[simp] theorem freeTideSlot_links : s.freeTideSlot.links = s.links := rfl
@[simp] theorem freeTideSlot_corr : s.freeTideSlot.corr = s.corr := rfl
@[simp] theorem freeTideSlot_cal : s.freeTideSlot.cal = s.cal := rfl
@[simp] theorem freeTideSlot_occ : s.freeTideSlot.occ = s.occ := rfl
@[simp] theorem freeTideSlot_drift : s.freeTideSlot.drift = s.drift := rfl
@[simp] theorem freeTideSlot_walker : s.freeTideSlot.walker = s.walker := rfl
@[simp] theorem freeTideSlot_order : s.freeTideSlot.order = s.order := rfl
@[simp] theorem freeTideSlot_port : s.freeTideSlot.port = s.port := rfl
@[simp] theorem freeTideSlot_ctrl : s.freeTideSlot.ctrl = s.ctrl := rfl
@[simp] theorem freeTideSlot_link (h : Head) : s.freeTideSlot.link h = s.link h := rfl
@[simp] theorem freeTideSlot_record (h : Head) : s.freeTideSlot.record h = s.record h := rfl
@[simp] theorem freeTideSlot_inbox (h : Head) : s.freeTideSlot.inbox h = s.inbox h := rfl
@[simp] theorem freeTideSlot_headState (h : Head) : s.freeTideSlot.headState h = s.headState h := rfl
@[simp] theorem freeTideSlot_loopAt (l : LoopId) : s.freeTideSlot.loopAt l = s.loopAt l := rfl
@[simp] theorem freeTideSlot_reportAt (h : Head) : s.freeTideSlot.reportAt h = s.reportAt h := rfl
@[simp] theorem freeTideSlot_calSet (c : SetId) : s.freeTideSlot.calSet c = s.calSet c := rfl
@[simp] theorem freeTideSlot_lane (n : Lane) : s.freeTideSlot.lane n = s.lane n := rfl
@[simp] theorem freeTideSlot_slot (r : Requester) : s.freeTideSlot.slot r = s.slot r := rfl
@[simp] theorem freeTideSlot_now : s.freeTideSlot.now = s.now := rfl
@[simp] theorem freeTideSlot_survey : s.freeTideSlot.survey = s.survey := rfl

/-! ### enqueue -/

@[simp] theorem enqueue_pending (q : QueueEntry) : (s.enqueue q).pending = s.pending := rfl
@[simp] theorem enqueue_links (q : QueueEntry) : (s.enqueue q).links = s.links := rfl
@[simp] theorem enqueue_corr (q : QueueEntry) : (s.enqueue q).corr = s.corr := rfl
@[simp] theorem enqueue_tide (q : QueueEntry) : (s.enqueue q).tide = s.tide := rfl
@[simp] theorem enqueue_cal (q : QueueEntry) : (s.enqueue q).cal = s.cal := rfl
@[simp] theorem enqueue_drift (q : QueueEntry) : (s.enqueue q).drift = s.drift := rfl
@[simp] theorem enqueue_walker (q : QueueEntry) : (s.enqueue q).walker = s.walker := rfl
@[simp] theorem enqueue_order (q : QueueEntry) : (s.enqueue q).order = s.order := rfl
@[simp] theorem enqueue_port (q : QueueEntry) : (s.enqueue q).port = s.port := rfl
@[simp] theorem enqueue_ctrl (q : QueueEntry) : (s.enqueue q).ctrl = s.ctrl := rfl
@[simp] theorem enqueue_link (q : QueueEntry) (h : Head) : (s.enqueue q).link h = s.link h := rfl
@[simp] theorem enqueue_record (q : QueueEntry) (h : Head) : (s.enqueue q).record h = s.record h := rfl
@[simp] theorem enqueue_inbox (q : QueueEntry) (h : Head) : (s.enqueue q).inbox h = s.inbox h := rfl
@[simp] theorem enqueue_headState (q : QueueEntry) (h : Head) : (s.enqueue q).headState h = s.headState h := rfl
@[simp] theorem enqueue_loopAt (q : QueueEntry) (l : LoopId) : (s.enqueue q).loopAt l = s.loopAt l := rfl
@[simp] theorem enqueue_reportAt (q : QueueEntry) (h : Head) : (s.enqueue q).reportAt h = s.reportAt h := rfl
@[simp] theorem enqueue_calSet (q : QueueEntry) (c : SetId) : (s.enqueue q).calSet c = s.calSet c := rfl
@[simp] theorem enqueue_lane (q : QueueEntry) (n : Lane) : (s.enqueue q).lane n = s.lane n := rfl
@[simp] theorem enqueue_slot (q : QueueEntry) (r : Requester) : (s.enqueue q).slot r = s.slot r := rfl
@[simp] theorem enqueue_now (q : QueueEntry) : (s.enqueue q).now = s.now := rfl
@[simp] theorem enqueue_survey (q : QueueEntry) : (s.enqueue q).survey = s.survey := rfl

/-! ### setIssued -/

@[simp] theorem setIssued_pending (i : Option Issued) : (s.setIssued i).pending = s.pending := rfl
@[simp] theorem setIssued_links (i : Option Issued) : (s.setIssued i).links = s.links := rfl
@[simp] theorem setIssued_corr (i : Option Issued) : (s.setIssued i).corr = s.corr := rfl
@[simp] theorem setIssued_tide (i : Option Issued) : (s.setIssued i).tide = s.tide := rfl
@[simp] theorem setIssued_cal (i : Option Issued) : (s.setIssued i).cal = s.cal := rfl
@[simp] theorem setIssued_drift (i : Option Issued) : (s.setIssued i).drift = s.drift := rfl
@[simp] theorem setIssued_walker (i : Option Issued) : (s.setIssued i).walker = s.walker := rfl
@[simp] theorem setIssued_order (i : Option Issued) : (s.setIssued i).order = s.order := rfl
@[simp] theorem setIssued_port (i : Option Issued) : (s.setIssued i).port = s.port := rfl
@[simp] theorem setIssued_ctrl (i : Option Issued) : (s.setIssued i).ctrl = s.ctrl := rfl
@[simp] theorem setIssued_link (i : Option Issued) (h : Head) : (s.setIssued i).link h = s.link h := rfl
@[simp] theorem setIssued_record (i : Option Issued) (h : Head) : (s.setIssued i).record h = s.record h := rfl
@[simp] theorem setIssued_inbox (i : Option Issued) (h : Head) : (s.setIssued i).inbox h = s.inbox h := rfl
@[simp] theorem setIssued_headState (i : Option Issued) (h : Head) : (s.setIssued i).headState h = s.headState h := rfl
@[simp] theorem setIssued_loopAt (i : Option Issued) (l : LoopId) : (s.setIssued i).loopAt l = s.loopAt l := rfl
@[simp] theorem setIssued_reportAt (i : Option Issued) (h : Head) : (s.setIssued i).reportAt h = s.reportAt h := rfl
@[simp] theorem setIssued_calSet (i : Option Issued) (c : SetId) : (s.setIssued i).calSet c = s.calSet c := rfl
@[simp] theorem setIssued_lane (i : Option Issued) (n : Lane) : (s.setIssued i).lane n = s.lane n := rfl
@[simp] theorem setIssued_slot (i : Option Issued) (r : Requester) : (s.setIssued i).slot r = s.slot r := rfl
@[simp] theorem setIssued_now (i : Option Issued) : (s.setIssued i).now = s.now := rfl
@[simp] theorem setIssued_survey (i : Option Issued) : (s.setIssued i).survey = s.survey := rfl

/-! ### purgeTrails -/

@[simp] theorem purgeTrails_pending : s.purgeTrails.pending = s.pending := rfl
@[simp] theorem purgeTrails_links : s.purgeTrails.links = s.links := rfl
@[simp] theorem purgeTrails_corr : s.purgeTrails.corr = s.corr := rfl
@[simp] theorem purgeTrails_tide : s.purgeTrails.tide = s.tide := rfl
@[simp] theorem purgeTrails_cal : s.purgeTrails.cal = s.cal := rfl
@[simp] theorem purgeTrails_drift : s.purgeTrails.drift = s.drift := rfl
@[simp] theorem purgeTrails_walker : s.purgeTrails.walker = s.walker := rfl
@[simp] theorem purgeTrails_order : s.purgeTrails.order = s.order := rfl
@[simp] theorem purgeTrails_port : s.purgeTrails.port = s.port := rfl
@[simp] theorem purgeTrails_ctrl : s.purgeTrails.ctrl = s.ctrl := rfl
@[simp] theorem purgeTrails_link (h : Head) : s.purgeTrails.link h = s.link h := rfl
@[simp] theorem purgeTrails_record (h : Head) : s.purgeTrails.record h = s.record h := rfl
@[simp] theorem purgeTrails_inbox (h : Head) : s.purgeTrails.inbox h = s.inbox h := rfl
@[simp] theorem purgeTrails_headState (h : Head) : s.purgeTrails.headState h = s.headState h := rfl
@[simp] theorem purgeTrails_loopAt (l : LoopId) : s.purgeTrails.loopAt l = s.loopAt l := rfl
@[simp] theorem purgeTrails_reportAt (h : Head) : s.purgeTrails.reportAt h = s.reportAt h := rfl
@[simp] theorem purgeTrails_calSet (c : SetId) : s.purgeTrails.calSet c = s.calSet c := rfl
@[simp] theorem purgeTrails_lane (n : Lane) : s.purgeTrails.lane n = s.lane n := rfl
@[simp] theorem purgeTrails_slot (r : Requester) : s.purgeTrails.slot r = s.slot r := rfl
@[simp] theorem purgeTrails_now : s.purgeTrails.now = s.now := rfl
@[simp] theorem purgeTrails_survey : s.purgeTrails.survey = s.survey := rfl

/-! ### setOrder -/

@[simp] theorem setOrder_pending (o : OrderExecutor) : (s.setOrder o).pending = s.pending := rfl
@[simp] theorem setOrder_links (o : OrderExecutor) : (s.setOrder o).links = s.links := rfl
@[simp] theorem setOrder_corr (o : OrderExecutor) : (s.setOrder o).corr = s.corr := rfl
@[simp] theorem setOrder_tide (o : OrderExecutor) : (s.setOrder o).tide = s.tide := rfl
@[simp] theorem setOrder_cal (o : OrderExecutor) : (s.setOrder o).cal = s.cal := rfl
@[simp] theorem setOrder_occ (o : OrderExecutor) : (s.setOrder o).occ = s.occ := rfl
@[simp] theorem setOrder_drift (o : OrderExecutor) : (s.setOrder o).drift = s.drift := rfl
@[simp] theorem setOrder_walker (o : OrderExecutor) : (s.setOrder o).walker = s.walker := rfl
@[simp] theorem setOrder_port (o : OrderExecutor) : (s.setOrder o).port = s.port := rfl
@[simp] theorem setOrder_ctrl (o : OrderExecutor) : (s.setOrder o).ctrl = s.ctrl := rfl
@[simp] theorem setOrder_link (o : OrderExecutor) (h : Head) : (s.setOrder o).link h = s.link h := rfl
@[simp] theorem setOrder_record (o : OrderExecutor) (h : Head) : (s.setOrder o).record h = s.record h := rfl
@[simp] theorem setOrder_inbox (o : OrderExecutor) (h : Head) : (s.setOrder o).inbox h = s.inbox h := rfl
@[simp] theorem setOrder_headState (o : OrderExecutor) (h : Head) : (s.setOrder o).headState h = s.headState h := rfl
@[simp] theorem setOrder_loopAt (o : OrderExecutor) (l : LoopId) : (s.setOrder o).loopAt l = s.loopAt l := rfl
@[simp] theorem setOrder_reportAt (o : OrderExecutor) (h : Head) : (s.setOrder o).reportAt h = s.reportAt h := rfl
@[simp] theorem setOrder_calSet (o : OrderExecutor) (c : SetId) : (s.setOrder o).calSet c = s.calSet c := rfl
@[simp] theorem setOrder_lane (o : OrderExecutor) (n : Lane) : (s.setOrder o).lane n = s.lane n := rfl
@[simp] theorem setOrder_slot (o : OrderExecutor) (r : Requester) : (s.setOrder o).slot r = s.slot r := rfl
@[simp] theorem setOrder_now (o : OrderExecutor) : (s.setOrder o).now = s.now := rfl
@[simp] theorem setOrder_survey (o : OrderExecutor) : (s.setOrder o).survey = s.survey := rfl

/-! ### decideOrder -/

@[simp] theorem decideOrder_pending (st : OrderStatus) (p : Reason) : (s.decideOrder st p).pending = s.pending := rfl
@[simp] theorem decideOrder_links (st : OrderStatus) (p : Reason) : (s.decideOrder st p).links = s.links := rfl
@[simp] theorem decideOrder_corr (st : OrderStatus) (p : Reason) : (s.decideOrder st p).corr = s.corr := rfl
@[simp] theorem decideOrder_tide (st : OrderStatus) (p : Reason) : (s.decideOrder st p).tide = s.tide := rfl
@[simp] theorem decideOrder_cal (st : OrderStatus) (p : Reason) : (s.decideOrder st p).cal = s.cal := rfl
@[simp] theorem decideOrder_occ (st : OrderStatus) (p : Reason) : (s.decideOrder st p).occ = s.occ := rfl
@[simp] theorem decideOrder_drift (st : OrderStatus) (p : Reason) : (s.decideOrder st p).drift = s.drift := rfl
@[simp] theorem decideOrder_walker (st : OrderStatus) (p : Reason) : (s.decideOrder st p).walker = s.walker := rfl
@[simp] theorem decideOrder_port (st : OrderStatus) (p : Reason) : (s.decideOrder st p).port = s.port := rfl
@[simp] theorem decideOrder_ctrl (st : OrderStatus) (p : Reason) : (s.decideOrder st p).ctrl = s.ctrl := rfl
@[simp] theorem decideOrder_link (st : OrderStatus) (p : Reason) (h : Head) : (s.decideOrder st p).link h = s.link h := rfl
@[simp] theorem decideOrder_record (st : OrderStatus) (p : Reason) (h : Head) : (s.decideOrder st p).record h = s.record h := rfl
@[simp] theorem decideOrder_inbox (st : OrderStatus) (p : Reason) (h : Head) : (s.decideOrder st p).inbox h = s.inbox h := rfl
@[simp] theorem decideOrder_headState (st : OrderStatus) (p : Reason) (h : Head) : (s.decideOrder st p).headState h = s.headState h := rfl
@[simp] theorem decideOrder_loopAt (st : OrderStatus) (p : Reason) (l : LoopId) : (s.decideOrder st p).loopAt l = s.loopAt l := rfl
@[simp] theorem decideOrder_reportAt (st : OrderStatus) (p : Reason) (h : Head) : (s.decideOrder st p).reportAt h = s.reportAt h := rfl
@[simp] theorem decideOrder_calSet (st : OrderStatus) (p : Reason) (c : SetId) : (s.decideOrder st p).calSet c = s.calSet c := rfl
@[simp] theorem decideOrder_lane (st : OrderStatus) (p : Reason) (n : Lane) : (s.decideOrder st p).lane n = s.lane n := rfl
@[simp] theorem decideOrder_slot (st : OrderStatus) (p : Reason) (r : Requester) : (s.decideOrder st p).slot r = s.slot r := rfl
@[simp] theorem decideOrder_now (st : OrderStatus) (p : Reason) : (s.decideOrder st p).now = s.now := rfl
@[simp] theorem decideOrder_survey (st : OrderStatus) (p : Reason) : (s.decideOrder st p).survey = s.survey := rfl

/-! ### orderWaits -/

@[simp] theorem orderWaits_pending (a : Acting) : (s.orderWaits a).pending = s.pending := rfl
@[simp] theorem orderWaits_links (a : Acting) : (s.orderWaits a).links = s.links := rfl
@[simp] theorem orderWaits_corr (a : Acting) : (s.orderWaits a).corr = s.corr := rfl
@[simp] theorem orderWaits_tide (a : Acting) : (s.orderWaits a).tide = s.tide := rfl
@[simp] theorem orderWaits_cal (a : Acting) : (s.orderWaits a).cal = s.cal := rfl
@[simp] theorem orderWaits_occ (a : Acting) : (s.orderWaits a).occ = s.occ := rfl
@[simp] theorem orderWaits_drift (a : Acting) : (s.orderWaits a).drift = s.drift := rfl
@[simp] theorem orderWaits_walker (a : Acting) : (s.orderWaits a).walker = s.walker := rfl
@[simp] theorem orderWaits_port (a : Acting) : (s.orderWaits a).port = s.port := rfl
@[simp] theorem orderWaits_ctrl (a : Acting) : (s.orderWaits a).ctrl = s.ctrl := rfl
@[simp] theorem orderWaits_link (a : Acting) (h : Head) : (s.orderWaits a).link h = s.link h := rfl
@[simp] theorem orderWaits_record (a : Acting) (h : Head) : (s.orderWaits a).record h = s.record h := rfl
@[simp] theorem orderWaits_inbox (a : Acting) (h : Head) : (s.orderWaits a).inbox h = s.inbox h := rfl
@[simp] theorem orderWaits_headState (a : Acting) (h : Head) : (s.orderWaits a).headState h = s.headState h := rfl
@[simp] theorem orderWaits_loopAt (a : Acting) (l : LoopId) : (s.orderWaits a).loopAt l = s.loopAt l := rfl
@[simp] theorem orderWaits_reportAt (a : Acting) (h : Head) : (s.orderWaits a).reportAt h = s.reportAt h := rfl
@[simp] theorem orderWaits_calSet (a : Acting) (c : SetId) : (s.orderWaits a).calSet c = s.calSet c := rfl
@[simp] theorem orderWaits_lane (a : Acting) (n : Lane) : (s.orderWaits a).lane n = s.lane n := rfl
@[simp] theorem orderWaits_slot (a : Acting) (r : Requester) : (s.orderWaits a).slot r = s.slot r := rfl
@[simp] theorem orderWaits_now (a : Acting) : (s.orderWaits a).now = s.now := rfl
@[simp] theorem orderWaits_survey (a : Acting) : (s.orderWaits a).survey = s.survey := rfl

/-! ### setAllFlags -/

@[simp] theorem setAllFlags_pending : s.setAllFlags.pending = s.pending := rfl
@[simp] theorem setAllFlags_links : s.setAllFlags.links = s.links := rfl
@[simp] theorem setAllFlags_corr : s.setAllFlags.corr = s.corr := rfl
@[simp] theorem setAllFlags_tide : s.setAllFlags.tide = s.tide := rfl
@[simp] theorem setAllFlags_cal : s.setAllFlags.cal = s.cal := rfl
@[simp] theorem setAllFlags_occ : s.setAllFlags.occ = s.occ := rfl
@[simp] theorem setAllFlags_drift : s.setAllFlags.drift = s.drift := rfl
@[simp] theorem setAllFlags_order : s.setAllFlags.order = s.order := rfl
@[simp] theorem setAllFlags_port : s.setAllFlags.port = s.port := rfl
@[simp] theorem setAllFlags_ctrl : s.setAllFlags.ctrl = s.ctrl := rfl
@[simp] theorem setAllFlags_link (h : Head) : s.setAllFlags.link h = s.link h := rfl
@[simp] theorem setAllFlags_record (h : Head) : s.setAllFlags.record h = s.record h := rfl
@[simp] theorem setAllFlags_inbox (h : Head) : s.setAllFlags.inbox h = s.inbox h := rfl
@[simp] theorem setAllFlags_headState (h : Head) : s.setAllFlags.headState h = s.headState h := rfl
@[simp] theorem setAllFlags_loopAt (l : LoopId) : s.setAllFlags.loopAt l = s.loopAt l := rfl
@[simp] theorem setAllFlags_reportAt (h : Head) : s.setAllFlags.reportAt h = s.reportAt h := rfl
@[simp] theorem setAllFlags_calSet (c : SetId) : s.setAllFlags.calSet c = s.calSet c := rfl
@[simp] theorem setAllFlags_slot (r : Requester) : s.setAllFlags.slot r = s.slot r := rfl
@[simp] theorem setAllFlags_now : s.setAllFlags.now = s.now := rfl
@[simp] theorem setAllFlags_survey : s.setAllFlags.survey = s.survey := rfl

/-! ### setRefresh -/

@[simp] theorem setRefresh_pending (p : Refresh) : (s.setRefresh p).pending = s.pending := rfl
@[simp] theorem setRefresh_links (p : Refresh) : (s.setRefresh p).links = s.links := rfl
@[simp] theorem setRefresh_corr (p : Refresh) : (s.setRefresh p).corr = s.corr := rfl
@[simp] theorem setRefresh_tide (p : Refresh) : (s.setRefresh p).tide = s.tide := rfl
@[simp] theorem setRefresh_cal (p : Refresh) : (s.setRefresh p).cal = s.cal := rfl
@[simp] theorem setRefresh_occ (p : Refresh) : (s.setRefresh p).occ = s.occ := rfl
@[simp] theorem setRefresh_drift (p : Refresh) : (s.setRefresh p).drift = s.drift := rfl
@[simp] theorem setRefresh_walker (p : Refresh) : (s.setRefresh p).walker = s.walker := rfl
@[simp] theorem setRefresh_order (p : Refresh) : (s.setRefresh p).order = s.order := rfl
@[simp] theorem setRefresh_port (p : Refresh) : (s.setRefresh p).port = s.port := rfl
@[simp] theorem setRefresh_link (p : Refresh) (h : Head) : (s.setRefresh p).link h = s.link h := rfl
@[simp] theorem setRefresh_record (p : Refresh) (h : Head) : (s.setRefresh p).record h = s.record h := rfl
@[simp] theorem setRefresh_inbox (p : Refresh) (h : Head) : (s.setRefresh p).inbox h = s.inbox h := rfl
@[simp] theorem setRefresh_headState (p : Refresh) (h : Head) : (s.setRefresh p).headState h = s.headState h := rfl
@[simp] theorem setRefresh_loopAt (p : Refresh) (l : LoopId) : (s.setRefresh p).loopAt l = s.loopAt l := rfl
@[simp] theorem setRefresh_reportAt (p : Refresh) (h : Head) : (s.setRefresh p).reportAt h = s.reportAt h := rfl
@[simp] theorem setRefresh_calSet (p : Refresh) (c : SetId) : (s.setRefresh p).calSet c = s.calSet c := rfl
@[simp] theorem setRefresh_lane (p : Refresh) (n : Lane) : (s.setRefresh p).lane n = s.lane n := rfl
@[simp] theorem setRefresh_slot (p : Refresh) (r : Requester) : (s.setRefresh p).slot r = s.slot r := rfl
@[simp] theorem setRefresh_now (p : Refresh) : (s.setRefresh p).now = s.now := rfl
@[simp] theorem setRefresh_survey (p : Refresh) : (s.setRefresh p).survey = s.survey := rfl

/-! ### endRefresh -/

@[simp] theorem endRefresh_pending : s.endRefresh.pending = s.pending := rfl
@[simp] theorem endRefresh_links : s.endRefresh.links = s.links := rfl
@[simp] theorem endRefresh_corr : s.endRefresh.corr = s.corr := rfl
@[simp] theorem endRefresh_tide : s.endRefresh.tide = s.tide := rfl
@[simp] theorem endRefresh_cal : s.endRefresh.cal = s.cal := rfl
@[simp] theorem endRefresh_occ : s.endRefresh.occ = s.occ := rfl
@[simp] theorem endRefresh_drift : s.endRefresh.drift = s.drift := rfl
@[simp] theorem endRefresh_walker : s.endRefresh.walker = s.walker := rfl
@[simp] theorem endRefresh_order : s.endRefresh.order = s.order := rfl
@[simp] theorem endRefresh_port : s.endRefresh.port = s.port := rfl
@[simp] theorem endRefresh_link (h : Head) : s.endRefresh.link h = s.link h := rfl
@[simp] theorem endRefresh_record (h : Head) : s.endRefresh.record h = s.record h := rfl
@[simp] theorem endRefresh_inbox (h : Head) : s.endRefresh.inbox h = s.inbox h := rfl
@[simp] theorem endRefresh_headState (h : Head) : s.endRefresh.headState h = s.headState h := rfl
@[simp] theorem endRefresh_loopAt (l : LoopId) : s.endRefresh.loopAt l = s.loopAt l := rfl
@[simp] theorem endRefresh_reportAt (h : Head) : s.endRefresh.reportAt h = s.reportAt h := rfl
@[simp] theorem endRefresh_calSet (c : SetId) : s.endRefresh.calSet c = s.calSet c := rfl
@[simp] theorem endRefresh_lane (n : Lane) : s.endRefresh.lane n = s.lane n := rfl
@[simp] theorem endRefresh_slot (r : Requester) : s.endRefresh.slot r = s.slot r := rfl
@[simp] theorem endRefresh_now : s.endRefresh.now = s.now := rfl
@[simp] theorem endRefresh_survey : s.endRefresh.survey = s.survey := rfl

/-! ### endFinalization -/

@[simp] theorem endFinalization_pending : s.endFinalization.pending = s.pending := rfl
@[simp] theorem endFinalization_links : s.endFinalization.links = s.links := rfl
@[simp] theorem endFinalization_corr : s.endFinalization.corr = s.corr := rfl
@[simp] theorem endFinalization_tide : s.endFinalization.tide = s.tide := rfl
@[simp] theorem endFinalization_cal : s.endFinalization.cal = s.cal := rfl
@[simp] theorem endFinalization_occ : s.endFinalization.occ = s.occ := rfl
@[simp] theorem endFinalization_walker : s.endFinalization.walker = s.walker := rfl
@[simp] theorem endFinalization_order : s.endFinalization.order = s.order := rfl
@[simp] theorem endFinalization_port : s.endFinalization.port = s.port := rfl
@[simp] theorem endFinalization_ctrl : s.endFinalization.ctrl = s.ctrl := rfl
@[simp] theorem endFinalization_link (h : Head) : s.endFinalization.link h = s.link h := rfl
@[simp] theorem endFinalization_record (h : Head) : s.endFinalization.record h = s.record h := rfl
@[simp] theorem endFinalization_inbox (h : Head) : s.endFinalization.inbox h = s.inbox h := rfl
@[simp] theorem endFinalization_headState (h : Head) : s.endFinalization.headState h = s.headState h := rfl
@[simp] theorem endFinalization_loopAt (l : LoopId) : s.endFinalization.loopAt l = s.loopAt l := rfl
@[simp] theorem endFinalization_reportAt (h : Head) : s.endFinalization.reportAt h = s.reportAt h := rfl
@[simp] theorem endFinalization_calSet (c : SetId) : s.endFinalization.calSet c = s.calSet c := rfl
@[simp] theorem endFinalization_lane (n : Lane) : s.endFinalization.lane n = s.lane n := rfl
@[simp] theorem endFinalization_slot (r : Requester) : s.endFinalization.slot r = s.slot r := rfl
@[simp] theorem endFinalization_now : s.endFinalization.now = s.now := rfl
@[simp] theorem endFinalization_survey : s.endFinalization.survey = s.survey := rfl

/-! ### What an update changes -/

@[simp] theorem updLink_link_same (k : Head) (f : LinkReceiver → LinkReceiver) : (s.updLink k f).link k = f (s.link k) := by
  simp [State.updLink, State.link]
theorem updLink_link_ne (k j : Head) (f : LinkReceiver → LinkReceiver) (h : j ≠ k) : (s.updLink k f).link j = s.link j := by
  have : k.val ≠ j.val := fun e => h (Fin.ext e.symm)
  simp [State.updLink, State.link, Vector.getElem_set_ne, this]
theorem updLink_link_eq (k j : Head) (f : LinkReceiver → LinkReceiver) :
    (s.updLink k f).link j = if j = k then f (s.link k) else s.link j := by
  by_cases h : j = k
  · subst h; simp
  · simp [h, updLink_link_ne]
@[simp] theorem updRecord_record_same (k : Head) (f : OccRecord → OccRecord) : (s.updRecord k f).record k = f (s.record k) := by
  simp [State.updRecord, State.record]
theorem updRecord_record_ne (k j : Head) (f : OccRecord → OccRecord) (h : j ≠ k) : (s.updRecord k f).record j = s.record j := by
  have : k.val ≠ j.val := fun e => h (Fin.ext e.symm)
  simp [State.updRecord, State.record, Vector.getElem_set_ne, this]
theorem updRecord_record_eq (k j : Head) (f : OccRecord → OccRecord) :
    (s.updRecord k f).record j = if j = k then f (s.record k) else s.record j := by
  by_cases h : j = k
  · subst h; simp
  · simp [h, updRecord_record_ne]
@[simp] theorem updInbox_inbox_same (k : Head) (f : RecordInbox → RecordInbox) : (s.updInbox k f).inbox k = f (s.inbox k) := by
  simp [State.updInbox, State.inbox]
theorem updInbox_inbox_ne (k j : Head) (f : RecordInbox → RecordInbox) (h : j ≠ k) : (s.updInbox k f).inbox j = s.inbox j := by
  have : k.val ≠ j.val := fun e => h (Fin.ext e.symm)
  simp [State.updInbox, State.inbox, Vector.getElem_set_ne, this]
theorem updInbox_inbox_eq (k j : Head) (f : RecordInbox → RecordInbox) :
    (s.updInbox k f).inbox j = if j = k then f (s.inbox k) else s.inbox j := by
  by_cases h : j = k
  · subst h; simp
  · simp [h, updInbox_inbox_ne]
@[simp] theorem updHead_headState_same (k : Head) (f : HeadState → HeadState) : (s.updHead k f).headState k = f (s.headState k) := by
  simp [State.updHead, State.headState]
theorem updHead_headState_ne (k j : Head) (f : HeadState → HeadState) (h : j ≠ k) : (s.updHead k f).headState j = s.headState j := by
  have : k.val ≠ j.val := fun e => h (Fin.ext e.symm)
  simp [State.updHead, State.headState, Vector.getElem_set_ne, this]
theorem updHead_headState_eq (k j : Head) (f : HeadState → HeadState) :
    (s.updHead k f).headState j = if j = k then f (s.headState k) else s.headState j := by
  by_cases h : j = k
  · subst h; simp
  · simp [h, updHead_headState_ne]
@[simp] theorem updLoop_loopAt_same (k : LoopId) (f : Loop → Loop) : (s.updLoop k f).loopAt k = f (s.loopAt k) := by
  simp [State.updLoop, State.loopAt]
theorem updLoop_loopAt_ne (k j : LoopId) (f : Loop → Loop) (h : j ≠ k) : (s.updLoop k f).loopAt j = s.loopAt j := by
  have : k.val ≠ j.val := fun e => h (Fin.ext e.symm)
  simp [State.updLoop, State.loopAt, Vector.getElem_set_ne, this]
theorem updLoop_loopAt_eq (k j : LoopId) (f : Loop → Loop) :
    (s.updLoop k f).loopAt j = if j = k then f (s.loopAt k) else s.loopAt j := by
  by_cases h : j = k
  · subst h; simp
  · simp [h, updLoop_loopAt_ne]
@[simp] theorem updCalSet_calSet_same (k : SetId) (f : CalSet → CalSet) : (s.updCalSet k f).calSet k = f (s.calSet k) := by
  simp [State.updCalSet, State.calSet]
theorem updCalSet_calSet_ne (k j : SetId) (f : CalSet → CalSet) (h : j ≠ k) : (s.updCalSet k f).calSet j = s.calSet j := by
  have : k.val ≠ j.val := fun e => h (Fin.ext e.symm)
  simp [State.updCalSet, State.calSet, Vector.getElem_set_ne, this]
theorem updCalSet_calSet_eq (k j : SetId) (f : CalSet → CalSet) :
    (s.updCalSet k f).calSet j = if j = k then f (s.calSet k) else s.calSet j := by
  by_cases h : j = k
  · subst h; simp
  · simp [h, updCalSet_calSet_ne]
@[simp] theorem updLane_lane_same (k : Lane) (f : LaneRecord → LaneRecord) : (s.updLane k f).lane k = f (s.lane k) := by
  simp [State.updLane, State.lane]
theorem updLane_lane_ne (k j : Lane) (f : LaneRecord → LaneRecord) (h : j ≠ k) : (s.updLane k f).lane j = s.lane j := by
  have : k.val ≠ j.val := fun e => h (Fin.ext e.symm)
  simp [State.updLane, State.lane, Vector.getElem_set_ne, this]
theorem updLane_lane_eq (k j : Lane) (f : LaneRecord → LaneRecord) :
    (s.updLane k f).lane j = if j = k then f (s.lane k) else s.lane j := by
  by_cases h : j = k
  · subst h; simp
  · simp [h, updLane_lane_ne]
@[simp] theorem setReport_reportAt_same (k : Head) (p : Option Report) : (s.setReport k p).reportAt k = p := by
  simp [State.setReport, State.reportAt]
theorem setReport_reportAt_ne (k j : Head) (p : Option Report) (h : j ≠ k) :
    (s.setReport k p).reportAt j = s.reportAt j := by
  have : k.val ≠ j.val := fun e => h (Fin.ext e.symm)
  simp [State.setReport, State.reportAt, Vector.getElem_set_ne, this]
@[simp] theorem setSlot_slot_same (k : Requester) (t : Option Transfer) : (s.setSlot k t).slot k = t := by
  simp [State.setSlot, State.slot]
theorem requester_number_inj {k j : Requester} (h : k.number = j.number) : k = j := by
  cases k <;> cases j <;> first | rfl | (exact absurd h (by decide))
theorem setSlot_slot_ne (k j : Requester) (t : Option Transfer) (h : j ≠ k) :
    (s.setSlot k t).slot j = s.slot j := by
  have : k.number.val ≠ j.number.val := fun e => h (requester_number_inj (Fin.ext e.symm))
  simp [State.setSlot, State.slot, Vector.getElem_set_ne, this]
@[simp] theorem mapLoops_loopAt (f : Loop → Loop) (l : LoopId) : (s.mapLoops f).loopAt l = f (s.loopAt l) := by
  simp [State.mapLoops, State.loopAt]
@[simp] theorem setAllFlags_lane (n : Lane) : s.setAllFlags.lane n = { s.lane n with flag := true } := by
  simp [State.setAllFlags, State.lane]
@[simp] theorem clearAllFlags_lane (n : Lane) : s.clearAllFlags.lane n = { s.lane n with flag := false } := by
  simp [State.clearAllFlags, State.lane]
@[simp] theorem raise_raised (e : Event) : (s.raise e).ctrl.raised = s.ctrl.raised ++ [e] := rfl
@[simp] theorem setEvaluator_evaluator (e : Option Evaluator) : (s.setEvaluator e).corr.evaluator = e := rfl
@[simp] theorem setLook_look (k : Option Look) : (s.setLook k).walker.look = k := rfl
@[simp] theorem setLookup_lookup (k : Option Lookup) : (s.setLookup k).tide.lookup = k := rfl
@[simp] theorem setCache_cache (c : List CacheEntry) : (s.setCache c).tide.cache = c := rfl
@[simp] theorem setGrant_grant (g : Option Grant) : (s.setGrant g).port.grant = g := rfl
@[simp] theorem setOrder_order (o : OrderExecutor) : (s.setOrder o).order = o := rfl
@[simp] theorem setIssued_issued (i : Option Issued) : (s.setIssued i).occ.issued = i := rfl
@[simp] theorem enqueue_queue (e : QueueEntry) : (s.enqueue e).occ.queue = s.occ.queue ++ [e] := rfl
@[simp] theorem setLoad_load (l : Option CalLoad) : (s.setLoad l).cal.load = l := rfl
@[simp] theorem setRefresh_refresh (r : Refresh) : (s.setRefresh r).ctrl.refresh = some r := rfl
@[simp] theorem tick_elapsed : s.tick.ctrl.elapsed = s.ctrl.elapsed + 1 := rfl

end Sys2Proof.Machine
end

