-- ==== Sys2Proof/Laws/Ops.lean ====
section
/-! SUPPORT. What each shared operation can do: which blocks it may change (its frame), and, where a proof needs it, its
result in one equation. The proofs of statements cite these instead of unfolding the operations. -/

namespace Sys2Proof.Machine

/-! ## Frames -/

theorem unchangedBut_self (bs : List Block) (s : State) : unchangedBut bs s s :=
  ⟨rfl, fun b _ => by cases b <;> rfl⟩

/-- One operation after another: the blocks that either may change. -/
theorem unchangedBut.andThen {as bs cs : List Block} {s t u : State} (h : unchangedBut as s t)
    (g : unchangedBut bs t u) (hc : ∀ b ∈ as ++ bs, b ∈ cs) : unchangedBut cs s u := by
  refine ⟨g.1.trans h.1, fun b hb => ?_⟩
  have ha : b ∉ as := fun m => hb (hc b (List.mem_append_left _ m))
  have hb' : b ∉ bs := fun m => hb (hc b (List.mem_append_right _ m))
  have e1 := h.2 b ha
  have e2 := g.2 b hb'
  cases b <;> exact Eq.trans e2 e1

/-- A frame may be widened. -/
theorem unchangedBut.widen {as cs : List Block} {s t : State} (h : unchangedBut as s t)
    (hc : ∀ b ∈ as, b ∈ cs) : unchangedBut cs s t :=
  ⟨h.1, fun b hb => h.2 b fun m => hb (hc b m)⟩

/-- What a frame says of each block that it does not name. -/
theorem unchangedBut.links {bs : List Block} {s t : State} (h : unchangedBut bs s t) (n : .links ∉ bs) :
    t.links = s.links := h.2 .links n
theorem unchangedBut.corr {bs : List Block} {s t : State} (h : unchangedBut bs s t) (n : .corr ∉ bs) :
    t.corr = s.corr := h.2 .corr n
theorem unchangedBut.tide {bs : List Block} {s t : State} (h : unchangedBut bs s t) (n : .tide ∉ bs) :
    t.tide = s.tide := h.2 .tide n
theorem unchangedBut.cal {bs : List Block} {s t : State} (h : unchangedBut bs s t) (n : .cal ∉ bs) :
    t.cal = s.cal := h.2 .cal n
theorem unchangedBut.occ {bs : List Block} {s t : State} (h : unchangedBut bs s t) (n : .occ ∉ bs) :
    t.occ = s.occ := h.2 .occ n
theorem unchangedBut.drift {bs : List Block} {s t : State} (h : unchangedBut bs s t) (n : .drift ∉ bs) :
    t.drift = s.drift := h.2 .drift n
theorem unchangedBut.walker {bs : List Block} {s t : State} (h : unchangedBut bs s t) (n : .walker ∉ bs) :
    t.walker = s.walker := h.2 .walker n
theorem unchangedBut.order {bs : List Block} {s t : State} (h : unchangedBut bs s t) (n : .order ∉ bs) :
    t.order = s.order := h.2 .order n
theorem unchangedBut.port {bs : List Block} {s t : State} (h : unchangedBut bs s t) (n : .port ∉ bs) :
    t.port = s.port := h.2 .port n
theorem unchangedBut.ctrl {bs : List Block} {s t : State} (h : unchangedBut bs s t) (n : .ctrl ∉ bs) :
    t.ctrl = s.ctrl := h.2 .ctrl n

/-- An update of one block. -/
theorem frame_links (s : State) (x : Vector LinkReceiver 4) : unchangedBut [.links] s { s with links := x } :=
  ⟨rfl, fun b hb => by cases b <;> first | rfl | (simp at hb)⟩
theorem frame_corr (s : State) (x : CorrectionUnit) : unchangedBut [.corr] s { s with corr := x } :=
  ⟨rfl, fun b hb => by cases b <;> first | rfl | (simp at hb)⟩
theorem frame_tide (s : State) (x : TideUnit) : unchangedBut [.tide] s { s with tide := x } :=
  ⟨rfl, fun b hb => by cases b <;> first | rfl | (simp at hb)⟩
theorem frame_cal (s : State) (x : CalibrationStore) : unchangedBut [.cal] s { s with cal := x } :=
  ⟨rfl, fun b hb => by cases b <;> first | rfl | (simp at hb)⟩
theorem frame_occ (s : State) (x : OccupationController) : unchangedBut [.occ] s { s with occ := x } :=
  ⟨rfl, fun b hb => by cases b <;> first | rfl | (simp at hb)⟩
theorem frame_drift (s : State) (x : DriftUnit) : unchangedBut [.drift] s { s with drift := x } :=
  ⟨rfl, fun b hb => by cases b <;> first | rfl | (simp at hb)⟩
theorem frame_walker (s : State) (x : SheetWalker) : unchangedBut [.walker] s { s with walker := x } :=
  ⟨rfl, fun b hb => by cases b <;> first | rfl | (simp at hb)⟩
theorem frame_order (s : State) (x : OrderExecutor) : unchangedBut [.order] s { s with order := x } :=
  ⟨rfl, fun b hb => by cases b <;> first | rfl | (simp at hb)⟩
theorem frame_port (s : State) (x : MemoryPort) : unchangedBut [.port] s { s with port := x } :=
  ⟨rfl, fun b hb => by cases b <;> first | rfl | (simp at hb)⟩
theorem frame_ctrl (s : State) (x : ControlPort) : unchangedBut [.ctrl] s { s with ctrl := x } :=
  ⟨rfl, fun b hb => by cases b <;> first | rfl | (simp at hb)⟩

/-- An update of several blocks at once. -/
theorem frame_port_ctrl (s : State) (x : MemoryPort) (y : ControlPort) :
    unchangedBut [.port, .ctrl] s { s with port := x, ctrl := y } :=
  ⟨rfl, fun b hb => by cases b <;> first | rfl | (simp at hb)⟩
theorem frame_directory (s : State) (x : MemoryPort) (w : SheetWalker) (d : DriftUnit) (y : ControlPort) :
    unchangedBut [.port, .walker, .drift, .ctrl] s { s with port := x, walker := w, drift := d, ctrl := y } :=
  ⟨rfl, fun b hb => by cases b <;> first | rfl | (simp at hb)⟩

section

variable (s : State)

theorem raise_frame (e : Event) : unchangedBut [.ctrl] s (s.raise e) := frame_ctrl s _
theorem updLink_frame (h : Head) (f : LinkReceiver → LinkReceiver) : unchangedBut [.links] s (s.updLink h f) :=
  frame_links s _
theorem updRecord_frame (h : Head) (f : OccRecord → OccRecord) : unchangedBut [.occ] s (s.updRecord h f) :=
  frame_occ s _
theorem updInbox_frame (h : Head) (f : RecordInbox → RecordInbox) : unchangedBut [.occ] s (s.updInbox h f) :=
  frame_occ s _
theorem enqueue_frame (e : QueueEntry) : unchangedBut [.occ] s (s.enqueue e) := frame_occ s _
theorem setIssued_frame (i : Option Issued) : unchangedBut [.occ] s (s.setIssued i) := frame_occ s _
theorem purgeTrails_frame : unchangedBut [.occ] s s.purgeTrails := frame_occ s _
theorem updHead_frame (h : Head) (f : HeadState → HeadState) : unchangedBut [.corr] s (s.updHead h f) :=
  frame_corr s _
theorem updDownMsgs_frame (h : Head) (f : Nat → Nat) : unchangedBut [.corr] s (s.updDownMsgs h f) :=
  frame_corr s _
theorem setEvaluator_frame (e : Option Evaluator) : unchangedBut [.corr] s (s.setEvaluator e) := frame_corr s _
theorem updLoop_frame (l : LoopId) (f : Loop → Loop) : unchangedBut [.drift] s (s.updLoop l f) :=
  frame_drift s _
theorem setReport_frame (h : Head) (p : Option Report) : unchangedBut [.drift] s (s.setReport h p) :=
  frame_drift s _
theorem updCalSet_frame (c : SetId) (f : CalSet → CalSet) : unchangedBut [.cal] s (s.updCalSet c f) :=
  frame_cal s _
theorem setLoad_frame (l : Option CalLoad) : unchangedBut [.cal] s (s.setLoad l) := frame_cal s _
theorem releaseUse_frame (c : SetId) : unchangedBut [.cal] s (s.releaseUse c) := frame_cal s _
theorem updLane_frame (n : Lane) (f : LaneRecord → LaneRecord) : unchangedBut [.walker] s (s.updLane n f) :=
  frame_walker s _
theorem setLook_frame (k : Option Look) : unchangedBut [.walker] s (s.setLook k) := frame_walker s _
theorem moveAnchor_frame (k : Look) : unchangedBut [.walker] s (s.moveAnchor k) := frame_walker s _
theorem setAllFlags_frame : unchangedBut [.walker] s s.setAllFlags := frame_walker s _
theorem clearAllFlags_frame : unchangedBut [.walker] s s.clearAllFlags := frame_walker s _
theorem setSlot_frame (r : Requester) (t : Option Transfer) : unchangedBut [.port] s (s.setSlot r t) :=
  frame_port s _
theorem present_frame (r : Requester) (a : Access) : unchangedBut [.port] s (s.present r a) := frame_port s _
theorem setGrant_frame (g : Option Grant) : unchangedBut [.port] s (s.setGrant g) := frame_port s _
theorem setCache_frame (c : List CacheEntry) : unchangedBut [.tide] s (s.setCache c) := frame_tide s _
theorem setLookup_frame (k : Option Lookup) : unchangedBut [.tide] s (s.setLookup k) := frame_tide s _
theorem setOrder_frame (o : OrderExecutor) : unchangedBut [.order] s (s.setOrder o) := frame_order s _
theorem decideOrder_frame (st : OrderStatus) (r : Reason) : unchangedBut [.order] s (s.decideOrder st r) :=
  frame_order s _
theorem orderDone_frame : unchangedBut [.order] s s.orderDone := frame_order s _
theorem orderRefused_frame (r : Reason) : unchangedBut [.order] s (s.orderRefused r) := frame_order s _
theorem orderWaits_frame (a : Acting) : unchangedBut [.order] s (s.orderWaits a) := frame_order s _
theorem loadConfig_frame (w : Word) : unchangedBut [.ctrl] s (s.loadConfig w) := frame_ctrl s _
theorem setRefresh_frame (r : Refresh) : unchangedBut [.ctrl] s (s.setRefresh r) := frame_ctrl s _
theorem endRefresh_frame : unchangedBut [.ctrl] s s.endRefresh := frame_ctrl s _
theorem changeTable_frame (t : Option TideTable) : unchangedBut [.tide] s (s.changeTable t) := frame_tide s _
theorem endScan_frame : unchangedBut [.tide] s s.endScan := frame_tide s _
theorem freeTideSlot_frame : unchangedBut [.tide] s s.freeTideSlot := frame_tide s _
theorem endFinalization_frame : unchangedBut [.drift] s s.endFinalization := frame_drift s _

/-! ## The engine state machine (R186, R188, R193) -/

/-- A request for a refresh touches the refresh in progress and the pending flag alone (R193). -/
theorem requestRefresh_eq :
    ∃ f p, s.requestRefresh = { s with ctrl := { s.ctrl with refresh := f, refreshPending := p } } := by
  unfold State.requestRefresh
  split
  · exact ⟨s.ctrl.refresh, s.ctrl.refreshPending, rfl⟩
  · split
    · exact ⟨_, s.ctrl.refreshPending, rfl⟩
    · exact ⟨s.ctrl.refresh, _, rfl⟩

theorem requestRefresh_frame : unchangedBut [.ctrl] s s.requestRefresh := by
  obtain ⟨f, p, e⟩ := requestRefresh_eq s
  rw [e]
  exact frame_ctrl s _

/-- A change of engine state: the state, ENGINE raised, and a request for a refresh (R186, R193). -/
theorem setEngine_eq (e : EngineState) :
    ∃ f p, s.setEngine e = { s with ctrl := { s.ctrl with
      engine := e, raised := s.ctrl.raised ++ [.engine], refresh := f, refreshPending := p } } := by
  obtain ⟨f, p, h⟩ := requestRefresh_eq (({ s with ctrl := { s.ctrl with engine := e } } : State).raise .engine)
  exact ⟨f, p, h⟩

theorem setEngine_frame (e : EngineState) : unchangedBut [.ctrl] s (s.setEngine e) := by
  obtain ⟨f, p, h⟩ := setEngine_eq s e
  rw [h]
  exact frame_ctrl s _

/-- The test of the stop condition does nothing, or enters STOPPED (R188). -/
theorem testStop_cases : s.testStop = s ∨
    (s.ctrl.engine = .stopping ∧ s.stopCondition = true ∧ s.testStop = s.setEngine .stopped) := by
  unfold State.testStop
  split
  · rename_i h
    exact .inr ⟨h.1, h.2, rfl⟩
  · exact .inl rfl

theorem testStop_frame : unchangedBut [.ctrl] s s.testStop := by
  rcases testStop_cases s with h | ⟨_, _, h⟩ <;> rw [h]
  · exact unchangedBut_self _ s
  · exact setEngine_frame s _

theorem allRecordsIdle_iff : s.allRecordsIdle = true ↔ ∀ h, (s.record h).state = .idle := by
  simp only [State.allRecordsIdle, List.all_cons, List.all_nil, Bool.and_true, Bool.and_eq_true,
    decide_eq_true_eq]
  exact ⟨fun ⟨a, b, c, d⟩ h => by
    match h with
    | 0 => exact a
    | 1 => exact b
    | 2 => exact c
    | 3 => exact d, fun h => ⟨h 0, h 1, h 2, h 3⟩⟩

theorem allLoopsFree_iff : s.allLoopsFree = true ↔ ∀ l, (s.loopAt l).state = .free := by
  simp only [State.allLoopsFree, List.all_cons, List.all_nil, Bool.and_true, Bool.and_eq_true,
    decide_eq_true_eq]
  exact ⟨fun ⟨a, b, c, d⟩ h => by
    match h with
    | 0 => exact a
    | 1 => exact b
    | 2 => exact c
    | 3 => exact d, fun h => ⟨h 0, h 1, h 2, h 3⟩⟩

/-- A request for a refresh, at the Control Port (R193). -/
theorem requestRefresh_ctrl : s.requestRefresh.ctrl = refreshRequested s.ctrl := by
  unfold State.requestRefresh refreshRequested
  split
  · rw [if_pos (by assumption)]
  · rename_i h
    rw [if_neg (by simp [h])]
    split
    · rw [if_pos (by assumption)]
    · rename_i g
      rw [if_neg (by simp [g])]

theorem stopCondition_iff : s.stopCondition = true ↔ stopHolds s := by
  have look : s.carrying = false ↔ ∀ k, s.walker.look = some k → k.stopped = true → k.placed = false := by
    unfold State.carrying
    split <;> simp_all
  simp only [State.stopCondition, Bool.and_eq_true, Bool.not_eq_true', allRecordsIdle_iff, look, stopHolds,
    State.orderInProgress, bne_eq_false_iff_eq, and_assoc]

/-- The test of the stop condition that follows an event which has raised `es` (R188). -/
theorem testStop_tested {es : List Event} {u : State}
    (h : u.ctrl = { s.ctrl with raised := s.ctrl.raised ++ es }) : stopTested es s u.testStop := by
  have g : u.testStop.occ = u.occ ∧ u.testStop.order = u.order ∧ u.testStop.walker = u.walker :=
    ⟨(testStop_frame u).occ (by decide), (testStop_frame u).order (by decide), (testStop_frame u).walker (by decide)⟩
  have same : stopHolds u.testStop ↔ stopHolds u := by
    simp only [stopHolds, State.record, g.1, g.2.1, g.2.2]
  have e : u.ctrl.engine = s.ctrl.engine := by rw [h]
  constructor
  · intro a b
    unfold State.testStop
    rw [if_pos ⟨e.trans a, (stopCondition_iff u).mpr (same.mp b)⟩]
    unfold State.setEngine
    rw [requestRefresh_ctrl]
    simp [State.raise, h]
  · intro a
    unfold State.testStop
    rw [if_neg, h]
    rintro ⟨x, y⟩
    exact a.elim (· (e.symm.trans x)) (· (same.mpr ((stopCondition_iff u).mp y)))

theorem enterFaulted_frame (r : FaultReason) : unchangedBut [.ctrl] s (s.enterFaulted r) :=
  (frame_ctrl s _).andThen (setEngine_frame _ _) (by decide)

theorem enterRunning_frame : unchangedBut [.walker, .ctrl] s s.enterRunning :=
  ((((frame_ctrl s _).andThen (frame_walker _ _) (fun _ m => m)).andThen (setEngine_frame _ _)
    (fun _ m => m))).andThen (setAllFlags_frame _) (by decide)

/-! ## Memory Port (R174, R180) -/

theorem recordFault_frame (r : Requester) (d : Direction) (a : Nat) (k : FaultKind) :
    unchangedBut [.port, .ctrl] s (s.recordFault r d a k) :=
  ((setSlot_frame s r none).andThen (frame_port _ _) (fun _ m => m)).andThen (raise_frame _ _) (by decide)

/-! ## Settle judge and link judge (R64, R68, R131) -/

theorem presentJudge_frame (h : Head) (j : SettleJudge) : unchangedBut [.occ] s (s.presentJudge h j) :=
  frame_occ s _

theorem judgeClear_frame (h : Head) : unchangedBut [.corr, .occ, .ctrl] s (s.judgeClear h) := by
  unfold State.judgeClear
  split
  · exact ((updHead_frame s h _).andThen (raise_frame _ _) (fun _ m => m)).andThen (presentJudge_frame _ _ _)
      (by decide)
  · exact (updHead_frame s h _).widen (by decide)

theorem abandonFrame_frame (h : Head) : unchangedBut [.corr] s (s.abandonFrame h) := by
  unfold State.abandonFrame
  split
  · exact unchangedBut_self _ s
  · split
    · exact setEvaluator_frame s _
    · exact unchangedBut_self _ s

theorem linkDown_frame (h : Head) (b : Bool) :
    unchangedBut [.links, .corr, .occ, .ctrl] s (s.linkDown h b) := by
  unfold State.linkDown
  dsimp only
  have base := ((updLink_frame s h fun l =>
    { l with judge := .down, goodRun := 0, badRun := 0, silenceTimer := none, expected := none }).andThen
      (raise_frame _ .link) (fun _ m => m)).andThen (updDownMsgs_frame _ h (· + 1)) (fun _ m => m)
  split
  · exact base.andThen (updInbox_frame _ h _) (by decide)
  · exact base.widen (by decide)

theorem linkUp_frame (h : Head) : unchangedBut [.links, .occ, .ctrl] s (s.linkUp h) :=
  ((updLink_frame s h _).andThen (raise_frame _ _) (fun _ m => m)).andThen (updInbox_frame _ _ _) (by decide)

/-! ## Occupations (R8, R21, R26, R28) -/

theorem endOccupation_frame (h : Head) (o : OccOutcome) : unchangedBut [.occ, .cal] s (s.endOccupation h o) :=
  ((updRecord_frame s h _).andThen (releaseUse_frame _ _) (fun _ m => m)).andThen (enqueue_frame _ _) (by decide)

/-- The record after an end: WRITING, with its outcome, the timers disarmed (R21). -/
theorem endOccupation_record (h : Head) (o : OccOutcome) : (s.endOccupation h o).record h =
    { s.record h with
      state := .writing, step := some .result, outcome := some o, settleTimer := none, acquireTimer := none,
      graceTimer := none, joinFailed := false } :=
  updRecord_record_same s h fun r =>
    { r with state := .writing, step := some .result, outcome := some o, settleTimer := none,
             acquireTimer := none, graceTimer := none, joinFailed := false }

theorem endOccupation_record_ne (h j : Head) (o : OccOutcome) (n : j ≠ h) :
    (s.endOccupation h o).record j = s.record j :=
  updRecord_record_ne s h j (fun r =>
    { r with state := .writing, step := some .result, outcome := some o, settleTimer := none,
             acquireTimer := none, graceTimer := none, joinFailed := false }) n

theorem endOccupation_queue (h : Head) (o : OccOutcome) :
    (s.endOccupation h o).occ.queue = s.occ.queue ++ [.result h] := rfl

theorem endOccupation_calSet (h : Head) (o : OccOutcome) : (s.endOccupation h o).calSet (s.record h).calSet =
    { s.calSet (s.record h).calSet with use := (s.calSet (s.record h).calSet).use - 1 } :=
  updCalSet_calSet_same s (s.record h).calSet fun k => { k with use := k.use - 1 }

theorem enterAcquiring_frame (h : Head) : unchangedBut [.occ] s (s.enterAcquiring h) := frame_occ s _

theorem enterSettling_frame (h : Head) : unchangedBut [.occ] s (s.enterSettling h) := by
  unfold State.enterSettling
  split
  · exact (updRecord_frame s h _).andThen (enterAcquiring_frame _ h) (by decide)
  · exact updRecord_frame s h _

theorem requestBusyLook_frame (n : Lane) : unchangedBut [.walker] s (s.requestBusyLook n) := by
  unfold State.requestBusyLook
  split
  · exact updLane_frame s n _
  · exact unchangedBut_self _ s

/-- A lane that is BUSY in RUNNING is to be looked at again (R141). -/
theorem requestBusyLook_flagged (n : Lane) {u : State} (hw : u.walker = s.walker)
    (he : u.ctrl.engine = s.ctrl.engine) : busyLaneFlagged n s (u.requestBusyLook n) := by
  have hl : u.lane n = s.lane n := congrArg (fun w : SheetWalker => w.lanes[n]) hw
  unfold State.requestBusyLook
  rw [he, hl]
  constructor
  · intro a b
    rw [if_pos ⟨a, b⟩]
    show ({ u.walker with lanes := u.walker.lanes.set n { u.lane n with flag := true } } : SheetWalker) = _
    rw [hl, hw]
  · intro a
    rw [if_neg fun h => a.elim (· h.1) (· h.2)]
    exact hw

theorem busyLaneFlagged.afterTest {n : Lane} {s u : State} (h : busyLaneFlagged n s u) :
    busyLaneFlagged n s u.testStop :=
  have e := (testStop_frame u).walker (by decide)
  ⟨fun a b => e.trans (h.1 a b), fun a => e.trans (h.2 a)⟩

/-- What the Sheet Walker and the Control Port are told of a record that becomes IDLE after an event which has raised
`es` (R141, R188). -/
theorem recordIdle_told (h : Head) {es : List Event} {u : State} (hw : u.walker = s.walker)
    (hc : u.ctrl = { s.ctrl with raised := s.ctrl.raised ++ es }) :
    stopTested es s (u.recordIdle h) ∧ busyLaneFlagged h.castSucc s (u.recordIdle h) := by
  refine ⟨testStop_tested s (Eq.trans ((requestBusyLook_frame _ _).ctrl (by decide)) hc), ?_⟩
  exact (requestBusyLook_flagged s (laneOf h) (u := u.updRecord h fun r => { r with state := .idle, step := none })
    hw (by simp [hc])).afterTest

theorem recordIdle_frame (h : Head) : unchangedBut [.occ, .walker, .ctrl] s (s.recordIdle h) :=
  ((updRecord_frame s h _).andThen (requestBusyLook_frame _ _) (fun _ m => m)).andThen (testStop_frame _)
    (by decide)

/-- Of the Occupation Controller, a record that becomes IDLE changes its state and its step alone. -/
theorem recordIdle_occ (h : Head) :
    (s.recordIdle h).occ = (s.updRecord h fun r => { r with state := .idle, step := none }).occ :=
  ((requestBusyLook_frame (s.updRecord h fun r => { r with state := .idle, step := none }) (laneOf h)).andThen
    (testStop_frame _) (fun _ m => m)).occ (by decide)

theorem recordIdle_record (h : Head) :
    (s.recordIdle h).record h = { s.record h with state := .idle, step := none } := by
  unfold State.record
  rw [recordIdle_occ]
  simp [State.updRecord, State.record]

theorem recordIdle_record_ne (h j : Head) (n : j ≠ h) : (s.recordIdle h).record j = s.record j := by
  unfold State.record
  rw [recordIdle_occ]
  exact updRecord_record_ne s h j _ n

theorem linkLoss_frame (h : Head) : unchangedBut [.occ, .cal] s (s.linkLoss h) := by
  unfold State.linkLoss
  dsimp only
  split
  · exact endOccupation_frame s h _
  · exact (updRecord_frame s h _).widen (by decide)

theorem takeRecord_frame (h : Head) (a : Word) (q : StationRequest) (role : Role) (l : Option LoopId)
    (g : BitVec 32) (c : SetId) : unchangedBut [.occ, .cal] s (s.takeRecord h a q role l g c) := by
  have base := ((updRecord_frame s h (takenRecord s.now a q role l g c)).andThen (purgeTrails_frame _)
    (fun _ m => m)).andThen (updInbox_frame _ h fun _ => {}) (fun _ m => m)
  unfold State.takeRecord
  dsimp only
  split
  · have mid := base.andThen (enterSettling_frame _ h) (fun _ m => m)
    split
    · exact mid.andThen (linkLoss_frame _ h) (by decide)
    · exact mid.widen (by decide)
  · split
    · exact base.andThen (linkLoss_frame _ h) (by decide)
    · exact base.widen (by decide)

theorem identityAtRecord_frame (h : Head) (m : IdentityMsg) :
    unchangedBut [.occ, .cal] s (s.identityAtRecord h m) := by
  unfold State.identityAtRecord
  dsimp only
  split
  · split
    · exact (enterSettling_frame s h).widen (by decide)
    · exact endOccupation_frame s h _
  · split
    · exact endOccupation_frame s h _
    · exact unchangedBut_self _ s
  · split
    · exact endOccupation_frame s h _
    · exact unchangedBut_self _ s
  · exact unchangedBut_self _ s
  · exact unchangedBut_self _ s

theorem interrupt_frame (h : Head) : unchangedBut [.occ, .cal] s (s.interrupt h) := by
  unfold State.interrupt
  dsimp only
  have base := updRecord_frame s h fun r => { r with intr := r.intr + 1 }
  split
  · exact base.andThen (endOccupation_frame _ h _) (by decide)
  · exact (base.andThen (updRecord_frame _ h _) (fun _ m => m)).andThen (enterSettling_frame _ h) (by decide)

theorem linkAtRecord_frame (h : Head) (j : LinkJudge) : unchangedBut [.occ, .cal] s (s.linkAtRecord h j) := by
  unfold State.linkAtRecord
  split
  · split
    · exact linkLoss_frame s h
    · exact (updRecord_frame s h _).widen (by decide)
  · exact unchangedBut_self _ s

theorem placeTrail_frame (h : Head) (t : TrailRecord) : unchangedBut [.occ] s (s.placeTrail h t) := by
  unfold State.placeTrail
  dsimp only
  split
  · exact unchangedBut_self _ s
  · split
    · exact (updRecord_frame s h _).andThen (enqueue_frame _ _) (by decide)
    · exact updRecord_frame s h _

theorem takeDisposition_frame (h : Head) (x : Sample) (t : Nat) (d : Disposition) :
    unchangedBut [.occ] s (s.takeDisposition h x t d) :=
  (updRecord_frame s h _).andThen (placeTrail_frame _ _ _) (by decide)

theorem takeCredit_frame (h : Head) (x : Sample) (t : Nat) (c : Candidate) :
    unchangedBut [.occ, .cal] s (s.takeCredit h x t c) := by
  unfold State.takeCredit
  dsimp only
  have base := (updRecord_frame s h fun r => { r with acc := creditAcc t c r.acc }).andThen
    (placeTrail_frame _ h ⟨t, x, .accepted, c.corrected⟩) (fun _ m => m)
  split
  · exact base.andThen (endOccupation_frame _ h _) (by decide)
  · exact base.widen (by decide)

theorem presentOccupation_frame : unchangedBut [.occ, .port] s s.presentOccupation := by
  unfold State.presentOccupation
  split
  · exact unchangedBut_self _ s
  · exact (frame_occ s _).andThen (present_frame _ _ _) (by decide)

theorem reportIfProvisional_frame (h : Head) (p : Report) :
    unchangedBut [.drift] s (s.reportIfProvisional h p) := by
  unfold State.reportIfProvisional
  split
  · exact setReport_frame s h _
  · exact unchangedBut_self _ s

theorem occOkay_frame : unchangedBut [.occ, .port, .drift, .walker, .ctrl] s s.occOkay := by
  unfold State.occOkay
  split
  · exact unchangedBut_self _ s
  · split
    · exact (setIssued_frame s _).andThen (updRecord_frame _ _ _) (by decide)
    · exact (setIssued_frame s _).widen (by decide)
  · exact (setIssued_frame s _).andThen (present_frame _ _ _) (by decide)
  · exact (setIssued_frame s _).andThen (updRecord_frame _ _ _) (by decide)
  · exact ((setIssued_frame s _).andThen (updRecord_frame _ _ _) (fun _ m => m)).andThen (enqueue_frame _ _)
      (by decide)
  · exact (((setIssued_frame s _).andThen (reportIfProvisional_frame _ _ _) (fun _ m => m)).andThen
      (raise_frame _ _) (fun _ m => m)).andThen (recordIdle_frame _ _) (by decide)

theorem occFault_frame : unchangedBut [.occ, .drift, .walker, .ctrl] s s.occFault := by
  unfold State.occFault
  split
  · exact unchangedBut_self _ s
  · split
    · exact ((setIssued_frame s _).andThen (updRecord_frame _ _ _) (fun _ m => m)).andThen
        (purgeTrails_frame _) (by decide)
    · exact (setIssued_frame s _).widen (by decide)
  · exact (setIssued_frame s _).andThen (updRecord_frame _ _ _) (by decide)
  · exact (setIssued_frame s _).andThen (updRecord_frame _ _ _) (by decide)
  · exact ((setIssued_frame s _).andThen (reportIfProvisional_frame _ _ _) (fun _ m => m)).andThen
      (recordIdle_frame _ _) (by decide)
  · exact ((setIssued_frame s _).andThen (reportIfProvisional_frame _ _ _) (fun _ m => m)).andThen
      (recordIdle_frame _ _) (by decide)

/-! ## Looks (R142 to R154) -/

theorem endLook_frame (k : Look) (st : LaneState) (b : Bool) :
    unchangedBut [.walker, .ctrl] s (s.endLook k st b) := by
  unfold State.endLook
  dsimp only
  have base := (updLane_frame s k.lane fun n => { n with state := st, flag := n.flag || b }).andThen
    (setLook_frame _ none) (fun _ m => m)
  split
  · exact base.andThen (testStop_frame _) (by decide)
  · exact base.widen (by decide)

/-- The end of a look after an event that has raised `es` (R154, R188). -/
theorem endLook_tested (k : Look) (st : LaneState) (b : Bool) {es : List Event} {u : State}
    (hc : u.ctrl = { s.ctrl with raised := s.ctrl.raised ++ es }) : lookTested k es s (u.endLook k st b) := by
  unfold State.endLook lookTested
  dsimp only
  constructor
  · intro h g
    rw [if_pos (by simp [h, g])]
    exact testStop_tested s hc
  · intro h
    rw [if_neg (by rcases h with h | h <;> simp [h])]
    exact hc

theorem endLook_look (k : Look) (st : LaneState) (b : Bool) : (s.endLook k st b).walker.look = none := by
  unfold State.endLook
  dsimp only
  split
  · exact congrArg SheetWalker.look ((testStop_frame _).walker (by decide))
  · rfl

theorem endLook_lane (k : Look) (st : LaneState) (b : Bool) : (s.endLook k st b).lane k.lane =
    { s.lane k.lane with state := st, flag := (s.lane k.lane).flag || b } := by
  have base := updLane_lane_same s k.lane fun n => { n with state := st, flag := n.flag || b }
  unfold State.endLook
  dsimp only
  split
  · exact (congrArg (fun w : SheetWalker => w.lanes[k.lane]) ((testStop_frame _).walker (by decide))).trans base
  · exact base

theorem endLook_lane_ne (k : Look) (st : LaneState) (b : Bool) {n : Lane} (h : n ≠ k.lane) :
    (s.endLook k st b).lane n = s.lane n := by
  have base := updLane_lane_ne s k.lane n (fun m => { m with state := st, flag := m.flag || b }) h
  unfold State.endLook
  dsimp only
  split
  · exact (congrArg (fun w : SheetWalker => w.lanes[n]) ((testStop_frame _).walker (by decide))).trans base
  · exact base

theorem returnClaim_frame (k : Look) : unchangedBut [.cal] s (s.returnClaim k) := by
  unfold State.returnClaim
  split
  · exact unchangedBut_self _ s
  · exact releaseUse_frame s _

theorem lookFault_frame (k : Look) : unchangedBut [.cal, .walker, .ctrl] s (s.lookFault k) :=
  (returnClaim_frame s k).andThen (endLook_frame _ k _ _) (by decide)

theorem lookStopped_frame (k : Look) : unchangedBut [.cal, .walker, .ctrl] s (s.lookStopped k) :=
  (returnClaim_frame s k).andThen (endLook_frame _ k _ _) (by decide)

theorem candidateAt_frame (k : Look) (a : Word) : unchangedBut [.walker, .ctrl] s (s.candidateAt k a) := by
  unfold State.candidateAt
  split
  · exact endLook_frame s k _ _
  · split <;> exact (setLook_frame s _).widen (by decide)

theorem passCandidate_frame (k : Look) (b : Bool) : unchangedBut [.walker, .ctrl] s (s.passCandidate k b) := by
  unfold State.passCandidate
  generalize (if b = true then ({ k with moved := k.moved + 1 } : Look) else k) = j
  dsimp only
  have base := moveAnchor_frame s k
  split
  · exact base.andThen (endLook_frame _ _ _ _) (by decide)
  · split
    · exact base.andThen (endLook_frame _ _ _ _) (by decide)
    · exact base.andThen (candidateAt_frame _ _ _) (by decide)

theorem refuseSheet_frame (k : Look) (r : Reason) : unchangedBut [.cal, .walker] s (s.refuseSheet k r) :=
  (returnClaim_frame s k).andThen (setLook_frame _ _) (by decide)

theorem validateHeader_frame (k : Look) (w : Word) : unchangedBut [.cal, .walker] s (s.validateHeader k w) := by
  unfold State.validateHeader
  split
  · exact refuseSheet_frame s k _
  · split
    · exact refuseSheet_frame s k _
    · exact (setLook_frame s _).widen (by decide)

theorem headerAnswered_frame (k : Look) (ws : List Word) :
    unchangedBut [.cal, .walker, .ctrl] s (s.headerAnswered k ws) := by
  unfold State.headerAnswered
  dsimp only
  split
  · exact (passCandidate_frame s _ _).widen (by decide)
  · split
    · split
      · exact (endLook_frame s _ _ _).widen (by decide)
      · exact (validateHeader_frame s _ _).widen (by decide)
    · exact (endLook_frame s _ _ _).widen (by decide)

theorem requestAnswered_frame (k : Look) (ws : List Word) :
    unchangedBut [.cal, .walker] s (s.requestAnswered k ws) := by
  unfold State.requestAnswered
  dsimp only
  split
  · exact refuseSheet_frame s k _
  · exact (setLook_frame s _).widen (by decide)

theorem lookAnswered_frame (k : Look) (ws : List Word) :
    unchangedBut [.cal, .walker, .ctrl] s (s.lookAnswered k ws) := by
  unfold State.lookAnswered
  split
  · exact (candidateAt_frame s _ _).widen (by decide)
  · exact (candidateAt_frame s _ _).widen (by decide)
  · exact headerAnswered_frame s k ws
  · exact (requestAnswered_frame s k ws).widen (by decide)
  · exact (setLook_frame s _).widen (by decide)
  · exact (setLook_frame s _).widen (by decide)
  · exact (raise_frame s _).andThen (passCandidate_frame _ _ _) (by decide)
  all_goals exact unchangedBut_self _ s

theorem walkerOkay_frame (ws : List Word) : unchangedBut [.cal, .walker, .ctrl] s (s.walkerOkay ws) := by
  unfold State.walkerOkay
  split
  · exact unchangedBut_self _ s
  · split
    · exact lookStopped_frame s _
    · exact lookAnswered_frame s _ ws

theorem walkerFault_frame : unchangedBut [.cal, .walker, .ctrl] s s.walkerFault := by
  unfold State.walkerFault
  split
  · exact unchangedBut_self _ s
  · exact lookFault_frame s _

theorem presentWalker_frame : unchangedBut [.port, .cal, .walker, .ctrl] s s.presentWalker := by
  unfold State.presentWalker
  split
  · exact unchangedBut_self _ s
  · split
    · exact (recordFault_frame s _ _ _ _).andThen (lookFault_frame _ _) (by decide)
    · split
      · exact unchangedBut_self _ s
      · exact (setLook_frame s _).andThen (present_frame _ _ _) (by decide)

theorem stopLook_frame : unchangedBut [.cal, .walker, .ctrl] s s.stopLook := by
  unfold State.stopLook
  split
  · exact unchangedBut_self _ s
  · split
    · exact (setLook_frame s _).widen (by decide)
    · exact lookStopped_frame s _

/-! ## Orders (R162, R163) and calibration loads (R93 to R95) -/

/-- What the Sheet Walker and the Control Port are told of an order that ends after an event which has raised `es`
(R141, R188). -/
theorem endOrder_told {es : List Event} {u : State} (hw : u.walker = s.walker)
    (hc : u.ctrl = { s.ctrl with raised := s.ctrl.raised ++ es }) :
    stopTested es s u.endOrder ∧ busyLaneFlagged 4 s u.endOrder := by
  refine ⟨testStop_tested s (Eq.trans ((requestBusyLook_frame _ _).ctrl (by decide)) hc), ?_⟩
  exact (requestBusyLook_flagged s 4 (u := { u with order := {} }) hw (by simp [hc])).afterTest

theorem endOrder_frame : unchangedBut [.order, .walker, .ctrl] s s.endOrder :=
  ((frame_order s _).andThen (requestBusyLook_frame _ _) (fun _ m => m)).andThen (testStop_frame _) (by decide)

theorem orderRead_frame (ws : List Word) : unchangedBut [.order] s (s.orderRead ws) := by
  unfold State.orderRead
  dsimp only
  split
  · exact (setOrder_frame s _).andThen (orderRefused_frame _ _) (by decide)
  · exact setOrder_frame s _

theorem failLoad_frame (c : SetId) (r : Reason) : unchangedBut [.cal, .order] s (s.failLoad c r) :=
  ((updCalSet_frame s c _).andThen (setLoad_frame _ _) (fun _ m => m)).andThen (orderRefused_frame _ _) (by decide)

theorem finishLoad_frame (c : SetId) (k : CalContents) : unchangedBut [.cal, .order] s (s.finishLoad c k) :=
  ((updCalSet_frame s c _).andThen (setLoad_frame _ _) (fun _ m => m)).andThen (orderDone_frame _) (by decide)

theorem loadAnswered_frame (ws : List Word) : unchangedBut [.cal, .order] s (s.loadAnswered ws) := by
  unfold State.loadAnswered
  split
  · exact unchangedBut_self _ s
  · split
    · split
      · exact failLoad_frame s _ _
      · exact ((updCalSet_frame s _ _).andThen (setLoad_frame _ _) (fun _ m => m)).widen (by decide)
    · split
      · exact failLoad_frame s _ _
      · exact finishLoad_frame s _ _

theorem orderOkay_frame (ws : List Word) : unchangedBut [.cal, .order, .walker, .ctrl] s (s.orderOkay ws) := by
  unfold State.orderOkay
  split
  · exact (orderRead_frame s ws).widen (by decide)
  · exact (loadAnswered_frame s ws).widen (by decide)
  · exact (setOrder_frame s _).widen (by decide)
  · exact (raise_frame s _).andThen (endOrder_frame _) (by decide)
  all_goals exact unchangedBut_self _ s

theorem orderFault_frame (k : FaultKind) : unchangedBut [.cal, .order, .walker, .ctrl] s (s.orderFault k) := by
  unfold State.orderFault
  split
  · exact (orderRefused_frame s _).widen (by decide)
  · split
    · exact unchangedBut_self _ s
    · exact (failLoad_frame s _ _).widen (by decide)
  · exact (endOrder_frame s).widen (by decide)
  · exact (endOrder_frame s).widen (by decide)
  all_goals exact unchangedBut_self _ s

theorem resetPart_frame (a b c : Bool) : unchangedBut [.order] s (s.resetPart a b c) := by
  unfold State.resetPart
  split
  · exact orderDone_frame s
  · exact orderWaits_frame s _

theorem setLinkSettings_frame (h : Head) (x : HeadSettings) :
    unchangedBut [.links, .corr, .occ, .ctrl] s (s.setLinkSettings h x) := by
  unfold State.setLinkSettings
  split
  · exact (updLink_frame s h _).widen (by decide)
  · split
    · exact (linkDown_frame s h _).andThen (updLink_frame _ h _) (by decide)
    · exact (updLink_frame s h _).widen (by decide)

theorem setHead_frame (h : Head) (x : HeadSettings) :
    unchangedBut [.links, .corr, .occ, .order, .ctrl] s (s.setHead h x) :=
  ((((judgeClear_frame s h).andThen (updHead_frame _ h _) (fun _ m => m)).andThen (abandonFrame_frame _ h)
    (fun _ m => m)).andThen (setLinkSettings_frame _ h x) (fun _ m => m)).andThen (orderDone_frame _) (by decide)

/-! ## Links (R124 to R132) -/

theorem badFrame_frame (h : Head) : unchangedBut [.links, .corr, .occ, .ctrl] s (s.badFrame h) := by
  unfold State.badFrame
  split
  · exact (updLink_frame s h _).widen (by decide)
  · split
    · exact linkDown_frame s h _
    · exact (updLink_frame s h _).widen (by decide)

theorem frameError_frame (h : Head) (f : Counters → Counters) :
    unchangedBut [.links, .corr, .occ, .ctrl] s (s.frameError h f) :=
  (updLink_frame s h _).andThen (badFrame_frame _ h) (by decide)

theorem judgeGoodFrame_frame (h : Head) : unchangedBut [.links, .occ, .ctrl] s (s.judgeGoodFrame h) := by
  unfold State.judgeGoodFrame
  split
  · split
    · exact linkUp_frame s h
    · exact (updLink_frame s h _).widen (by decide)
  · exact (updLink_frame s h _).widen (by decide)

theorem offerFrame_frame (h : Head) (f : Frame) : unchangedBut [.links, .ctrl] s (s.offerFrame h f) := by
  unfold State.offerFrame
  split
  · exact (updLink_frame s h _).widen (by decide)
  · exact (updLink_frame s h _).andThen (raise_frame _ _) (by decide)

theorem goodFrame_frame (h : Head) (k : FrameKind) (q : Byte) (p : List Byte) :
    unchangedBut [.links, .occ, .ctrl] s (s.goodFrame h k q p) := by
  unfold State.goodFrame
  dsimp only
  have base := (updLink_frame s h fun l =>
    { l with counters := { l.counters with good := l.counters.good + 1 } }).andThen (judgeGoodFrame_frame _ h)
      (fun _ m => m)
  split
  · exact (base.andThen (updLink_frame _ h _) (fun _ m => m)).andThen (offerFrame_frame _ h _) (by decide)
  · exact base.andThen (updLink_frame _ h _) (by decide)

theorem checkHeader_frame (h : Head) (bs : List Byte) :
    unchangedBut [.links, .corr, .occ, .ctrl] s (s.checkHeader h bs) := by
  unfold State.checkHeader
  split
  · exact frameError_frame s h _
  · exact (updLink_frame s h _).widen (by decide)

theorem checkFrame_frame (h : Head) (bs : List Byte) :
    unchangedBut [.links, .corr, .occ, .ctrl] s (s.checkFrame h bs) := by
  unfold State.checkFrame
  dsimp only
  split
  · split
    · exact (updLink_frame s h _).andThen (goodFrame_frame _ h _ _ _) (by decide)
    · exact frameError_frame s h _
  · exact frameError_frame s h _

theorem collect_frame (h : Head) (cells : List TrackCell) (f : List Byte → State → State)
    (hf : ∀ bs t, unchangedBut [.links, .corr, .occ, .ctrl] t (f bs t)) :
    unchangedBut [.links, .corr, .occ, .ctrl] s (s.collect h cells f) := by
  unfold State.collect
  dsimp only
  split
  · exact (updLink_frame s h _).widen (by decide)
  · split
    · exact (updLink_frame s h _).andThen (hf _ _) (by decide)
    · exact unchangedBut_self _ s

/-! ## Sample intake (R55 to R67) -/

theorem sampleDone_frame (e : Evaluator) : unchangedBut [.corr] s (s.sampleDone e) := by
  unfold State.sampleDone
  split <;> exact setEvaluator_frame s _

/-- The evaluator after a delivery: the next sample, or the end of the frame (R67). -/
theorem sampleDone_eq (e : Evaluator) : s.sampleDone e =
    s.setEvaluator (if e.remaining = [] then none else some { e with phase := .between }) := by
  unfold State.sampleDone
  split <;> rename_i h <;> simp [h]

theorem removeFrame_frame (h : Head) : unchangedBut [.links, .corr] s (s.removeFrame h) :=
  (updLink_frame s h _).andThen (frame_corr _ _) (by decide)

theorem takeIdent_frame (h : Head) (f : Frame) : unchangedBut [.corr, .occ] s (s.takeIdent h f) :=
  (updHead_frame s h _).andThen (updInbox_frame _ h _) (by decide)

theorem beginFrame_frame (h : Head) (f : Frame) : unchangedBut [.corr] s (s.beginFrame h f) := by
  unfold State.beginFrame
  split
  · exact unchangedBut_self _ s
  · exact setEvaluator_frame s _

theorem toDelivery_frame (e : Evaluator) (x : Sample) (t : Nat) (c : SampleClass) (b : Bool) :
    unchangedBut [.corr] s (s.toDelivery e x t c b) := by
  unfold State.toDelivery
  split
  · exact sampleDone_frame s e
  · exact setEvaluator_frame s _

theorem judge_frame (h : Head) (x : Sample) : unchangedBut [.corr, .occ, .ctrl] s (s.judge h x) := by
  unfold State.judge
  dsimp only
  split
  · exact (updHead_frame s h _).widen (by decide)
  · exact ((updHead_frame s h _).andThen (raise_frame _ _) (fun _ m => m)).andThen (presentJudge_frame _ _ _)
      (by decide)

theorem judgeNext_frame (e : Evaluator) (x : Sample) : unchangedBut [.corr, .occ, .ctrl] s (s.judgeNext e x) := by
  unfold State.judgeNext
  dsimp only
  have base := updHead_frame s e.head fun y => { y with phase := cadencePhase y }
  split
  · exact base.andThen (sampleDone_frame _ e) (by decide)
  · split
    · exact base.andThen (toDelivery_frame _ _ _ _ _ _) (by decide)
    · split
      · exact base.andThen (toDelivery_frame _ _ _ _ _ _) (by decide)
      · exact (base.andThen (judge_frame _ _ _) (fun _ m => m)).andThen (toDelivery_frame _ _ _ _ _ _)
          (by decide)

theorem formTerms_frame (e : Evaluator) (c : Context) (x : Sample) (t : Nat) :
    unchangedBut [.corr] s (s.formTerms e c x t) := by
  unfold State.formTerms
  dsimp only
  split <;> exact setEvaluator_frame s _

theorem formDelivery_frame (e : Evaluator) (c : Context) (x : Sample) (t : Nat) (k : SampleClass) :
    unchangedBut [.corr] s (s.formDelivery e c x t k) := by
  unfold State.formDelivery
  dsimp only
  split
  · split
    · exact formTerms_frame s e c x t
    · exact setEvaluator_frame s _
  · exact sampleDone_frame s e

/-! ## Tide (R103 to R114) -/

theorem commitTable_frame (p : PendingTable) (o : ScanOwner) :
    unchangedBut [.tide, .order, .walker, .ctrl] s (s.commitTable p o) := by
  have base := (changeTable_frame s (some (scannedTable p))).andThen (endScan_frame _) (fun _ m => m)
  unfold State.commitTable
  dsimp only
  split
  · exact base.andThen (orderDone_frame _) (by decide)
  · exact base.andThen (enterRunning_frame _) (by decide)

theorem commitIfReady_frame : unchangedBut [.tide, .order, .walker, .ctrl] s s.commitIfReady := by
  unfold State.commitIfReady
  split
  · split
    · exact commitTable_frame s _ _
    · exact unchangedBut_self _ s
  · exact unchangedBut_self _ s

theorem failScan_frame (r : Reason) : unchangedBut [.tide, .order, .ctrl] s (s.failScan r) := by
  unfold State.failScan
  split
  · exact unchangedBut_self _ s
  · exact (endScan_frame s).andThen (orderRefused_frame _ _) (by decide)
  · exact ((endScan_frame s).andThen (changeTable_frame _ _) (fun _ m => m)).andThen (enterFaulted_frame _ _)
      (by decide)

theorem adoptTable_frame (a n : Nat) : unchangedBut [.tide, .walker, .ctrl] s (s.adoptTable a n) := by
  unfold State.adoptTable
  split
  · exact (changeTable_frame s _).andThen (enterRunning_frame _) (by decide)
  · exact (frame_tide s _).widen (by decide)

theorem answerTide_frame (v : Option Int) : unchangedBut [.corr, .ctrl] s (s.answerTide v) := by
  unfold State.answerTide
  split
  · exact unchangedBut_self _ s
  · split
    · split
      · exact (setEvaluator_frame s _).widen (by decide)
      · exact (setEvaluator_frame s _).andThen (raise_frame _ _) (by decide)
    all_goals exact unchangedBut_self _ s

theorem endLookup_frame (v : Option Int) :
    unchangedBut [.corr, .tide, .order, .walker, .ctrl] s (s.endLookup v) :=
  ((answerTide_frame s v).andThen (setLookup_frame _ _) (fun _ m => m)).andThen (commitIfReady_frame _) (by decide)

theorem beginLookup_frame (t : Nat) :
    unchangedBut [.corr, .tide, .order, .walker, .ctrl] s (s.beginLookup t) := by
  unfold State.beginLookup
  split
  · exact endLookup_frame s _
  · split
    · exact (setCache_frame s _).andThen (endLookup_frame _ _) (by decide)
    · split
      · exact endLookup_frame s _
      · exact (setLookup_frame s _).widen (by decide)

theorem probeAnswered_frame (k : Lookup) (g : Segment) :
    unchangedBut [.corr, .tide, .order, .walker, .ctrl] s (s.probeAnswered k g) := by
  unfold State.probeAnswered
  dsimp only
  split
  · split
    · exact endLookup_frame s _
    · exact (setLookup_frame s _).widen (by decide)
  · split
    · split
      · exact endLookup_frame s _
      · exact (setLookup_frame s _).widen (by decide)
    · exact (setLookup_frame s _).widen (by decide)

theorem segmentAnswered_frame (k : Lookup) (g : Segment) :
    unchangedBut [.corr, .tide, .order, .walker, .ctrl] s (s.segmentAnswered k g) := by
  unfold State.segmentAnswered
  split
  · split
    · exact (setCache_frame s _).andThen (endLookup_frame _ _) (by decide)
    · exact endLookup_frame s _
  · exact endLookup_frame s _

theorem scanAnswered_frame (g : Segment) : unchangedBut [.tide, .order, .walker, .ctrl] s (s.scanAnswered g) := by
  unfold State.scanAnswered
  split
  · exact unchangedBut_self _ s
  · split
    · exact (failScan_frame s _).widen (by decide)
    · exact (frame_tide s _).andThen (commitIfReady_frame _) (by decide)

theorem presentTide_frame : unchangedBut [.tide, .port] s s.presentTide := by
  unfold State.presentTide
  split
  · exact unchangedBut_self _ s
  · exact (frame_tide s _).andThen (present_frame _ _ _) (by decide)

theorem tideOkay_frame (ws : List Word) :
    unchangedBut [.corr, .tide, .order, .walker, .ctrl] s (s.tideOkay ws) := by
  unfold State.tideOkay
  split
  · exact unchangedBut_self _ s
  · exact (freeTideSlot_frame s).andThen (scanAnswered_frame _ _) (by decide)
  · split
    · exact (freeTideSlot_frame s).widen (by decide)
    · split
      · exact (freeTideSlot_frame s).andThen (probeAnswered_frame _ _ _) (by decide)
      · exact (freeTideSlot_frame s).andThen (segmentAnswered_frame _ _ _) (by decide)

theorem tideFault_frame (k : FaultKind) :
    unchangedBut [.corr, .tide, .order, .walker, .ctrl] s (s.tideFault k) := by
  unfold State.tideFault
  split
  · exact unchangedBut_self _ s
  · exact (freeTideSlot_frame s).andThen (endLookup_frame _ _) (by decide)
  · exact (freeTideSlot_frame s).andThen (failScan_frame _ _) (by decide)

/-! ## Drift (R32 to R53) -/

theorem addBatch_frame (k : BatchKind) (es : List PoolEntry) : unchangedBut [.drift] s (s.addBatch k es) := by
  unfold State.addBatch
  split
  · exact unchangedBut_self _ s
  · exact frame_drift s _

/-- A batch that would hold no entry is not formed (R45). -/
theorem addBatch_batches (k : BatchKind) (es : List PoolEntry) : (s.addBatch k es).drift.batches =
    if es = [] then s.drift.batches else s.drift.batches ++ [⟨k, es⟩] := by
  unfold State.addBatch
  split <;> simp

theorem addBatch_loopAt (k : BatchKind) (es : List PoolEntry) (l : LoopId) :
    (s.addBatch k es).loopAt l = s.loopAt l := by
  unfold State.addBatch
  split <;> rfl

theorem detachLoop_frame (l : LoopId) (k : BatchKind) (f : Loop → Loop) :
    unchangedBut [.drift, .ctrl] s (s.detachLoop l k f) :=
  ((updLoop_frame s l _).andThen (addBatch_frame _ _ _) (fun _ m => m)).andThen (raise_frame _ _) (by decide)

theorem detachLoop_loopAt (l : LoopId) (k : BatchKind) (f : Loop → Loop) :
    (s.detachLoop l k f).loopAt l = { f (s.loopAt l) with pending := [] } := by
  unfold State.detachLoop
  rw [raise_loopAt, addBatch_loopAt, updLoop_loopAt_same]

theorem detachLoop_loopAt_ne (l i : LoopId) (k : BatchKind) (f : Loop → Loop) (n : i ≠ l) :
    (s.detachLoop l k f).loopAt i = s.loopAt i := by
  unfold State.detachLoop
  rw [raise_loopAt, addBatch_loopAt, updLoop_loopAt_ne _ _ _ _ n]

theorem detachLoop_batches (l : LoopId) (k : BatchKind) (f : Loop → Loop) :
    (s.detachLoop l k f).drift.batches =
      if (s.loopAt l).pending = [] then s.drift.batches
      else s.drift.batches ++ [⟨k, (s.loopAt l).pending⟩] := by
  unfold State.detachLoop
  rw [raise_drift, addBatch_batches]
  rfl

theorem detachLoop_ctrl (l : LoopId) (k : BatchKind) (f : Loop → Loop) : (s.detachLoop l k f).ctrl =
    { s.ctrl with raised := s.ctrl.raised ++ [.loop] } := by
  unfold State.detachLoop
  have e : ((s.updLoop l fun x => { f x with pending := [] }).addBatch k (s.loopAt l).pending).ctrl = s.ctrl :=
    (addBatch_frame _ _ _).ctrl (by decide)
  simp only [State.raise, e]

theorem expireLoop_frame (l : LoopId) : unchangedBut [.drift, .ctrl] s (s.expireLoop l) := detachLoop_frame s l _ _

theorem loopCheck_frame (role : Role) (l : LoopId) (t : State) (h : s.loopCheck role l = some t) :
    unchangedBut [.drift, .ctrl] s t := by
  unfold State.loopCheck at h
  split at h <;> first
    | (cases h; exact (updLoop_frame s l _).andThen (raise_frame _ _) (by decide))
    | (cases h; exact unchangedBut_self _ s)
    | (exact nomatch h)

theorem reopenLoop_frame (l : LoopId) : unchangedBut [.drift, .ctrl] s (s.reopenLoop l) := by
  unfold State.reopenLoop
  dsimp only
  split
  · exact ((updLoop_frame s l _).andThen (raise_frame _ _) (fun _ m => m)).andThen (expireLoop_frame _ l)
      (by decide)
  · exact (updLoop_frame s l _).andThen (raise_frame _ _) (by decide)

theorem joinStation_frame (h : Head) (l : LoopId) (r : OccRecord) :
    unchangedBut [.drift, .ctrl] s (s.joinStation h l r).1 := by
  unfold State.joinStation
  split
  · exact unchangedBut_self _ s
  · split
    · exact unchangedBut_self _ s
    · split
      · exact unchangedBut_self _ s
      · split
        · exact (raise_frame s _).widen (by decide)
        · exact (updLoop_frame s l _).widen (by decide)

theorem joinOpen_frame (l : LoopId) (r : OccRecord) : unchangedBut [.drift, .ctrl] s (s.joinOpen l r).1 := by
  unfold State.joinOpen
  split
  · exact (updLoop_frame s l _).andThen (raise_frame _ _) (by decide)
  · exact detachLoop_frame s l _ _

theorem joinClose_frame (b : Bool) (l : LoopId) (r : OccRecord) :
    unchangedBut [.drift, .ctrl] s (s.joinClose b l r).1 := by
  unfold State.joinClose
  dsimp only
  split
  · exact detachLoop_frame s l _ _
  · exact reopenLoop_frame s l

theorem joinOf_frame (h : Head) (r : OccRecord) : unchangedBut [.drift, .ctrl] s (s.joinOf h r).1 := by
  unfold State.joinOf
  split
  · exact unchangedBut_self _ s
  · split
    · exact joinStation_frame s h _ r
    · exact joinOpen_frame s _ r
    · exact joinClose_frame s _ _ r
    · exact joinClose_frame s _ _ r

theorem joinAnswered_frame (h : Head) (a : DriftAnswer) :
    unchangedBut [.occ, .walker, .ctrl] s (s.joinAnswered h a) := by
  unfold State.joinAnswered
  split
  · exact recordIdle_frame s h
  · exact (updRecord_frame s h _).andThen (enqueue_frame _ _) (by decide)

theorem landReport_frame (h : Head) (l : Landing) : unchangedBut [.drift] s (s.landReport h l) := frame_drift s _
theorem failReport_frame (h : Head) : unchangedBut [.drift] s (s.failReport h) := frame_drift s _

theorem driftOkay_frame : unchangedBut [.drift, .ctrl] s s.driftOkay := by
  unfold State.driftOkay
  split
  · exact unchangedBut_self _ s
  · exact (frame_drift s _).widen (by decide)
  · exact (endFinalization_frame s).andThen (raise_frame _ _) (by decide)

theorem driftFault_frame : unchangedBut [.drift] s s.driftFault := by
  unfold State.driftFault
  split
  · exact unchangedBut_self _ s
  · exact endFinalization_frame s

theorem withdraw_frame (l : LoopId) (a : Nat) : unchangedBut [.drift] s (s.withdraw l a) :=
  (updLoop_frame s l _).andThen (addBatch_frame _ _ _) (by decide)

theorem takeStation_frame (k : Look) (q : StationRequest) (c : SetId) (role : Role) :
    unchangedBut [.cal, .walker, .drift, .occ, .ctrl] s (s.takeStation k q c role) := by
  unfold State.takeStation
  split
  · exact (refuseSheet_frame s k _).widen (by decide)
  · split
    · exact (refuseSheet_frame s k _).widen (by decide)
    · rename_i t g h
      have ht : unchangedBut [.drift, .ctrl] s t := by
        unfold State.sheetLoopCheck at h
        split at h
        · cases h
          exact unchangedBut_self _ s
        · rw [Option.map_eq_some_iff] at h
          obtain ⟨u, hu, e⟩ := h
          cases e
          exact loopCheck_frame s _ _ _ hu
      exact (ht.andThen (takeRecord_frame _ _ _ _ _ _ _ _) (fun _ m => m)).andThen (passCandidate_frame _ _ _)
        (by decide)

/-! ## Control Port (R175, R186, R187, R194) -/

theorem abandonRefresh_frame : unchangedBut [.ctrl] s s.abandonRefresh := by
  unfold State.abandonRefresh
  split
  · exact unchangedBut_self _ s
  · exact frame_ctrl s _

theorem presentDirectory_frame : unchangedBut [.port] s s.presentDirectory := by
  unfold State.presentDirectory
  split
  · exact present_frame s _ _
  · exact unchangedBut_self _ s

theorem enterStarting_frame : unchangedBut [.port, .ctrl] s s.enterStarting := by
  unfold State.enterStarting
  dsimp only
  refine unchangedBut.andThen (as := [.port, .ctrl]) ?_ (presentDirectory_frame _) (by decide)
  refine unchangedBut.andThen (as := [.port, .ctrl]) ?_ (setEngine_frame _ _) (by decide)
  refine unchangedBut.andThen (as := [.port, .ctrl]) ?_ (setSlot_frame _ _ _) (by decide)
  exact (abandonRefresh_frame s).andThen (frame_port_ctrl _ _ _) (by decide)

theorem runCommand_frame : unchangedBut [.port, .walker, .ctrl] s s.runCommand := by
  unfold State.runCommand
  split
  · exact (enterStarting_frame s).widen (by decide)
  · exact (enterStarting_frame s).widen (by decide)
  · exact (enterRunning_frame s).widen (by decide)
  all_goals exact unchangedBut_self _ s

theorem stopCommand_frame : unchangedBut [.cal, .walker, .ctrl] s s.stopCommand := by
  unfold State.stopCommand
  split
  · exact (((((setEngine_frame s _).andThen (clearAllFlags_frame _) (fun _ m => m)).andThen (frame_walker _ _)
      (fun _ m => m)).andThen (stopLook_frame _) (fun _ m => m))).andThen (testStop_frame _) (by decide)
  all_goals exact unchangedBut_self _ s

theorem refreshOkay_frame : unchangedBut [.ctrl] s s.refreshOkay := by
  unfold State.refreshOkay
  split
  · exact unchangedBut_self _ s
  · exact setRefresh_frame s _
  · exact setRefresh_frame s _
  · exact endRefresh_frame s

theorem refreshFault_frame : unchangedBut [.ctrl] s s.refreshFault := by
  unfold State.refreshFault
  split
  · exact unchangedBut_self _ s
  · exact endRefresh_frame s

theorem loadDirectory_frame (d : Directory) :
    unchangedBut [.port, .walker, .drift, .ctrl] s (s.loadDirectory d) :=
  (frame_directory s _ _ _ _).andThen (requestRefresh_frame _) (by decide)

theorem directoryAnswered_frame (ws : List Word) :
    unchangedBut [.port, .walker, .drift, .tide, .ctrl] s (s.directoryAnswered ws) := by
  unfold State.directoryAnswered
  split
  · exact (enterFaulted_frame s _).widen (by decide)
  · exact (loadDirectory_frame s _).andThen (adoptTable_frame _ _ _) (by decide)

theorem controlOkay_frame (ws : List Word) :
    unchangedBut [.port, .walker, .drift, .tide, .ctrl] s (s.controlOkay ws) := by
  unfold State.controlOkay
  split
  · exact directoryAnswered_frame s ws
  · exact (refreshOkay_frame s).widen (by decide)
  · exact (refreshOkay_frame s).widen (by decide)

theorem controlFault_frame : unchangedBut [.ctrl] s s.controlFault := by
  unfold State.controlFault
  split
  · exact enterFaulted_frame s _
  · exact refreshFault_frame s
  · exact refreshFault_frame s

/-! ## Answers at the port (R174, R180) -/

/-- The blocks that an answered or faulted access may change beside the port: never a Link Receiver. -/
theorem requesterOkay_frame (r : Requester) (ws : List Word) :
    unchangedBut [.corr, .tide, .cal, .occ, .drift, .walker, .order, .port, .ctrl] s
      (s.requesterOkay r ws) := by
  unfold State.requesterOkay
  split
  · exact (walkerOkay_frame s ws).widen (by decide)
  · exact (orderOkay_frame s ws).widen (by decide)
  · exact (tideOkay_frame s ws).widen (by decide)
  · exact (occOkay_frame s).widen (by decide)
  · exact (driftOkay_frame s).widen (by decide)
  · exact (controlOkay_frame s ws).widen (by decide)

theorem requesterFault_frame (r : Requester) (k : FaultKind) :
    unchangedBut [.corr, .tide, .cal, .occ, .drift, .walker, .order, .ctrl] s (s.requesterFault r k) := by
  unfold State.requesterFault
  split
  · exact (walkerFault_frame s).widen (by decide)
  · exact (orderFault_frame s k).widen (by decide)
  · exact (tideFault_frame s k).widen (by decide)
  · exact (occFault_frame s).widen (by decide)
  · exact (driftFault_frame s).widen (by decide)
  · exact (controlFault_frame s).widen (by decide)

theorem portFault_frame (r : Requester) (d : Direction) (a : Nat) (k : FaultKind) :
    unchangedBut [.corr, .tide, .cal, .occ, .drift, .walker, .order, .port, .ctrl] s
      (s.portFault r d a k) :=
  (recordFault_frame s r d a k).andThen (requesterFault_frame _ r k) (by decide)

theorem grantOkay_frame (g : Grant) (ws : List Word) :
    unchangedBut [.corr, .tide, .cal, .occ, .drift, .walker, .order, .port, .ctrl] s (s.grantOkay g ws) := by
  unfold State.grantOkay
  dsimp only
  split
  · exact (setGrant_frame s _).widen (by decide)
  · split
    · exact ((setGrant_frame s _).andThen (setSlot_frame _ _ _) (fun _ m => m)).andThen
        (requesterOkay_frame _ _ _) (by decide)
    · exact (setGrant_frame s _).andThen (setSlot_frame _ _ _) (by decide)

theorem grantRetry_frame (g : Grant) :
    unchangedBut [.corr, .tide, .cal, .occ, .drift, .walker, .order, .port, .ctrl] s (s.grantRetry g) := by
  unfold State.grantRetry
  split
  · exact (setGrant_frame s _).widen (by decide)
  · exact (setGrant_frame s _).andThen (portFault_frame _ _ _ _ _) (by decide)

theorem discardedAnswer_frame : unchangedBut [.port] s s.discardedAnswer :=
  (setGrant_frame s _).andThen (presentDirectory_frame _) (by decide)

theorem formGrant_frame (n : Fin 6) (t : Transfer) :
    unchangedBut [.corr, .tide, .cal, .occ, .drift, .walker, .order, .port, .ctrl] s (s.formGrant n t) := by
  unfold State.formGrant
  dsimp only
  split
  · exact (frame_port s _).andThen (setGrant_frame _ _) (by decide)
  · exact (frame_port s _).andThen (portFault_frame _ _ _ _ _) (by decide)

theorem presentNext_frame (r : Requester) :
    unchangedBut [.tide, .cal, .occ, .walker, .port, .ctrl] s (s.presentNext r) := by
  unfold State.presentNext
  split
  · exact (presentWalker_frame s).widen (by decide)
  · split
    · exact unchangedBut_self _ s
    · exact (present_frame s _ _).widen (by decide)
  · exact (presentTide_frame s).widen (by decide)
  · exact (presentOccupation_frame s).widen (by decide)
  · split
    · exact unchangedBut_self _ s
    · exact (present_frame s _ _).widen (by decide)
  · split
    · exact (presentDirectory_frame s).widen (by decide)
    · unfold State.presentRefresh
      split
      · exact (present_frame s _ _).widen (by decide)
      · exact unchangedBut_self _ s

/-! ## A raised event stays raised until it arrives (R191) -/

theorem setEngine_raised (x : EngineState) (e : Event) (h : e ∈ s.ctrl.raised) :
    e ∈ (s.setEngine x).ctrl.raised := by
  obtain ⟨f, p, q⟩ := setEngine_eq s x
  rw [q]
  exact List.mem_append_left _ h

theorem testStop_raised (e : Event) (h : e ∈ s.ctrl.raised) : e ∈ s.testStop.ctrl.raised := by
  rcases testStop_cases s with q | ⟨_, _, q⟩ <;> rw [q]
  · exact h
  · exact setEngine_raised s _ e h

theorem endLook_raised (k : Look) (st : LaneState) (b : Bool) (e : Event) (h : e ∈ s.ctrl.raised) :
    e ∈ (s.endLook k st b).ctrl.raised := by
  unfold State.endLook
  dsimp only
  split
  · exact testStop_raised _ e h
  · exact h

theorem walkerFault_raised (e : Event) (h : e ∈ s.ctrl.raised) : e ∈ s.walkerFault.ctrl.raised := by
  unfold State.walkerFault
  split
  · exact h
  · rename_i k _
    refine endLook_raised _ k _ _ e ?_
    rw [(returnClaim_frame s k).ctrl (by decide)]
    exact h

theorem endOrder_raised (e : Event) (h : e ∈ s.ctrl.raised) : e ∈ s.endOrder.ctrl.raised := by
  refine testStop_raised _ e ?_
  rw [(requestBusyLook_frame _ _).ctrl (by decide)]
  exact h

theorem orderFault_raised (k : FaultKind) (e : Event) (h : e ∈ s.ctrl.raised) :
    e ∈ (s.orderFault k).ctrl.raised := by
  unfold State.orderFault
  split
  · exact h
  · split
    · exact h
    · rw [(failLoad_frame s _ _).ctrl (by decide)]
      exact h
  · exact endOrder_raised s e h
  · exact endOrder_raised s e h
  all_goals exact h

theorem enterRunning_raised (e : Event) (h : e ∈ s.ctrl.raised) : e ∈ s.enterRunning.ctrl.raised := by
  unfold State.enterRunning
  dsimp only
  rw [(setAllFlags_frame _).ctrl (by decide)]
  exact setEngine_raised _ _ e h

theorem commitIfReady_raised (e : Event) (h : e ∈ s.ctrl.raised) : e ∈ s.commitIfReady.ctrl.raised := by
  unfold State.commitIfReady
  split
  · split
    · unfold State.commitTable
      dsimp only
      split
      · exact h
      · exact enterRunning_raised _ e h
    · exact h
  · exact h

theorem answerTide_raised (v : Option Int) (e : Event) (h : e ∈ s.ctrl.raised) :
    e ∈ (s.answerTide v).ctrl.raised := by
  unfold State.answerTide
  split
  · exact h
  · split
    · split
      · exact h
      · exact List.mem_append_left _ h
    all_goals exact h

theorem tideFault_raised (k : FaultKind) (e : Event) (h : e ∈ s.ctrl.raised) :
    e ∈ (s.tideFault k).ctrl.raised := by
  unfold State.tideFault
  split
  · exact h
  · exact commitIfReady_raised _ e (answerTide_raised _ _ e h)
  · unfold State.failScan
    split
    · exact h
    · exact h
    · exact setEngine_raised _ _ e h

theorem occFault_raised (e : Event) (h : e ∈ s.ctrl.raised) : e ∈ s.occFault.ctrl.raised := by
  have idle : ∀ g, e ∈ (((s.setIssued none).reportIfProvisional g .failure).recordIdle g).ctrl.raised := by
    intro g
    refine testStop_raised _ e ?_
    rw [(requestBusyLook_frame _ _).ctrl (by decide), (updRecord_frame _ _ _).ctrl (by decide),
      (reportIfProvisional_frame _ _ _).ctrl (by decide)]
    exact h
  unfold State.occFault
  split
  · exact h
  · split <;> exact h
  · exact h
  · exact h
  · exact idle _
  · exact idle _

theorem controlFault_raised (e : Event) (h : e ∈ s.ctrl.raised) : e ∈ s.controlFault.ctrl.raised := by
  have refreshed : e ∈ s.refreshFault.ctrl.raised := by
    unfold State.refreshFault
    split <;> exact h
  unfold State.controlFault
  split
  · exact setEngine_raised _ _ e h
  · exact refreshed
  · exact refreshed

/-- A fault at the port: the record, MEMFAULT, the slot free, and no grant but the one in flight (R180). -/
theorem portFault_port (r : Requester) (d : Direction) (a : Nat) (k : FaultKind) :
    (s.portFault r d a k).port =
      { s.port with slots := s.port.slots.set r.number none, lastFault := some ⟨r, d, a, k⟩ } :=
  (requesterFault_frame _ r k).port (by decide)

theorem portFault_raised (r : Requester) (d : Direction) (a : Nat) (k : FaultKind) :
    .memfault ∈ (s.portFault r d a k).ctrl.raised := by
  have h : Event.memfault ∈ (s.recordFault r d a k).ctrl.raised :=
    List.mem_append_right _ (List.mem_singleton_self _)
  unfold State.portFault State.requesterFault
  split
  · exact walkerFault_raised _ _ h
  · exact orderFault_raised _ k _ h
  · exact tideFault_raised _ k _ h
  · exact occFault_raised _ _ h
  · rw [(driftFault_frame _).ctrl (by decide)]
    exact h
  · exact controlFault_raised _ _ h

/-- The requester that the arbiter chooses is the first one after the pointer that waits (R176). -/
theorem requesterAt_number (r : Requester) : requesterAt r.number = r := by cases r <;> rfl
theorem number_requesterAt (n : Fin 6) : (requesterAt n).number = n := by
  revert n
  decide

theorem chosenRequester_first (r : Requester) (j : Fin 6) (h : s.slot r ≠ none)
    (e : r.number = s.port.pointer + 1 + j)
    (f : ∀ q : Requester, ∀ i : Fin 6, i < j → q.number = s.port.pointer + 1 + i → s.slot q = none) :
    s.chosenRequester = some r.number := by
  have waits : ∀ q : Requester, (s.port.slots[q.number]).isSome = (s.slot q).isSome := fun _ => rfl
  have order : ∀ p : Fin 6, roundOrder p = (List.finRange 6).map (p + 1 + ·) := by decide
  unfold State.chosenRequester
  rw [order, List.find?_map, Option.map_eq_some_iff]
  refine ⟨j, ?_, e.symm⟩
  rw [List.find?_eq_some_iff_append]
  refine ⟨?_, (List.finRange 6).take j, (List.finRange 6).drop (j + 1), ?_, ?_⟩
  · have := waits (requesterAt (s.port.pointer + 1 + j))
    simp only [number_requesterAt] at this
    simp only [Function.comp]
    rw [this, ← e, requesterAt_number]
    exact Option.isSome_iff_ne_none.mpr h
  · clear e f waits
    revert j
    decide
  · intro i hi
    have lt : i < j := by
      clear * - hi
      revert i j
      decide
    have := waits (requesterAt (s.port.pointer + 1 + i))
    simp only [number_requesterAt] at this
    simp only [Function.comp]
    rw [this, f _ i lt (number_requesterAt _)]
    rfl

end

/-! ## The receiver (07) -/

theorem updLink_updLink (h : Head) (f g : LinkReceiver → LinkReceiver) (s : State) :
    (s.updLink h f).updLink h g = s.updLink h fun l => g (f l) := by
  simp [State.updLink, State.link]

/-- The interval that is not well-formed returns the run to 0 (R118). -/
theorem lockOver_bad {r : Rate} {v : Interval} (n : Nat) (h : intervalWellFormed r v = false) :
    lockOver r n [v] = (0, none) := by
  unfold lockOver
  rw [h]
  rfl

/-- Well-formed intervals that complete the run bring the lock at the last of them (R118). -/
theorem lockOver_run {r : Rate} : ∀ (vs : List Interval) (n : Nat), vs ≠ [] →
    (∀ v ∈ vs, intervalWellFormed r v = true) → n + vs.length = 16 → lockOver r n vs = (0, some [])
  | [], _, h, _, _ => absurd rfl h
  | [v], n, _, w, e => by
    simp only [List.length_cons, List.length_nil] at e
    simp only [lockOver, w v (List.mem_singleton_self v), if_true]
    rw [if_pos (by simp only [Config.lockCells]; omega)]
  | v :: x :: xs, n, _, w, e => by
    simp only [List.length_cons] at e
    rw [lockOver, if_pos (w v List.mem_cons_self), if_neg (by simp only [Config.lockCells]; omega)]
    exact lockOver_run (x :: xs) (n + 1) (List.cons_ne_nil _ _) (fun y m => w y (List.mem_cons_of_mem v m))
      (by simp only [List.length_cons]; omega)

/-- A cell begins at its boundary where that is present, and at the predicted place where it is not (R119). -/
theorem cellStart_present {r : Rate} {p b : Nat} {c : TrackCell} (hb : c.boundary = some b)
    (hp : cellPresent r p c = true) : cellStart r p c = b * r.bps := by
  unfold cellPresent at hp
  unfold cellStart
  simp only [hb] at hp ⊢
  rw [if_pos hp]
  rfl

theorem cellStart_missed {r : Rate} {p : Nat} {c : TrackCell} (hp : cellPresent r p c = false) :
    cellStart r p c = p := by
  unfold cellPresent at hp
  unfold cellStart
  split
  · rfl
  · rename_i hb
    simp only [hb] at hp
    rw [if_neg (by rw [hp]; exact Bool.false_ne_true)]

/-- Bits that are absorbed change neither the rate nor the timing. -/
theorem absorbBits_timing {u l : LinkReceiver} {bs : List Bool} (h : absorbBits u bs = some l) :
    l.rate = u.rate ∧ l.timing = u.timing := by
  unfold absorbBits at h
  split at h <;> split at h <;> first | (cases h; exact ⟨rfl, rfl⟩) | cases h

/-- Bits that complete a header, or a payload with its CRC, are checked (R122, R123). -/
theorem collect_complete {h : Head} {cells : List TrackCell} {complete : List Byte → State → State} {s : State}
    {bs : List Bool} (hb : bs = (s.link h).bits ++ bitsToTake (s.link h) cells)
    (hl : bs.length = bitsExpected (s.link h)) :
    s.collect h cells complete =
      complete (bytesOfBits bs) (s.updLink h fun l => { tracked cells l with bits := [] }) := by
  subst hb
  unfold State.collect
  simp only
  rw [if_neg (by omega), if_pos hl]

/-- What a bad frame event leaves after an update `f` of the receiver that has put the assembler in HUNT and has touched
neither the judge nor the queue (R124, R129 to R131). -/
theorem badFrame_taken {h : Head} {s : State} {f : LinkReceiver → LinkReceiver} {x : LinkReceiver} (hx : f (s.link h) = x)
    (hf : x = { s.link h with
      assembler := .hunt, hunt := x.hunt, header := x.header, bits := x.bits, counters := x.counters,
      tracker := x.tracker, lockRun := x.lockRun, missRun := x.missRun, timing := x.timing,
      incoming := x.incoming }) :
    badFrameTaken h s ((s.updLink h f).badFrame h) ∧ (((s.updLink h f).badFrame h).link h).counters = x.counters := by
  have hj : (s.updLink h f).link h = x := by rw [← hx]; simp
  have e1 : x.judge = (s.link h).judge := by rw [hf]
  have e2 : x.queue = (s.link h).queue := by rw [hf]
  have e3 : x.assembler = .hunt := by rw [hf]
  have e4 : x.badRun = (s.link h).badRun := by rw [hf]
  have e5 : x.linkOut = (s.link h).linkOut := by rw [hf]
  have e6 : x.silenceTimer = (s.link h).silenceTimer := by rw [hf]
  have e7 : x.expected = (s.link h).expected := by rw [hf]
  unfold State.badFrame badFrameTaken
  rw [hj, e1, e4, e5]
  cases hjj : (s.link h).judge with
  | down =>
    refine ⟨⟨by simp [hx, e3], by simp [hx, e2], fun i hi => ?_, fun _ => ⟨by simp [hx, e1, hjj], by simp, ?_⟩,
      by simp, by simp⟩, by simp [hx]⟩
    · simp only
      rw [updLink_link_ne _ _ _ _ hi, updLink_link_ne _ _ _ _ hi]
    · exact (updLink_frame s h _).andThen (updLink_frame _ h _) (by decide)
  | up =>
    by_cases c : (s.link h).linkOut ≤ (s.link h).badRun + 1
    · simp only [c, if_true]
      refine ⟨⟨by simp [State.linkDown, hx, e3], by simp [State.linkDown, hx, e2], fun i hi => ?_, by simp,
        fun _ n => absurd c (by omega), fun _ _ => ?_⟩, by simp [State.linkDown, hx]⟩
      · simp only [State.linkDown, if_true, updInbox_link, updDownMsgs_link, raise_link]
        rw [updLink_link_ne _ _ _ _ hi, updLink_link_ne _ _ _ _ hi]
      · refine ⟨by simp [State.linkDown], by simp [State.linkDown], by simp [State.linkDown],
          by simp [State.linkDown], by simp [State.linkDown], rfl, rfl, by simp [State.linkDown], fun _ => rfl, ?_⟩
        exact (updLink_frame s h _).andThen (linkDown_frame _ h _) (by decide)
    · rw [if_neg c]
      refine ⟨⟨by simp [hx, e3], by simp [hx, e2], fun i hi => ?_, by simp, fun _ n => ?_,
        fun _ n => absurd n (by omega)⟩, by simp [hx]⟩
      · rw [updLink_link_ne _ _ _ _ hi, updLink_link_ne _ _ _ _ hi]
      · exact ⟨by simp [hx, e1, hjj], by simp [hx, e4], by simp [hx, e6], by simp [hx, e7],
          (updLink_frame s h _).andThen (updLink_frame _ h _) (by decide)⟩

/-! ## Samples (03) -/

/-- The settle judge does not read the cadence phase. -/
theorem judgeSample_setPhase (x : HeadState) (n : Nat) (smp : Sample) :
    judgeSample { x with phase := n } smp = { judgeSample x smp with phase := n } := by
  have e1 : isSteady { x with phase := n } smp = isSteady x smp := rfl
  have e2 : isLevel { x with phase := n } smp = isLevel x smp := rfl
  unfold judgeSample
  dsimp only
  rw [e1, e2]
  cases x.judge <;> dsimp only <;> repeat (first | rfl | split)

end Sys2Proof.Machine
end

