-- ==== Sys2Proof/Laws/Exec.lean ====
section
/-! SUPPORT. What a command and a step can do: every command answers a next state, and it changes no block outside a list
that depends on the command alone. -/

namespace Sys2Proof.Machine

/-- The blocks that a command may change. -/
def mayChange : Instr → List Block
  | .powerOnReset | .reset _ => [.links, .corr, .tide, .cal, .occ, .drift, .walker, .order, .port, .ctrl]
  | .run _ => [.port, .walker, .ctrl]
  | .stop _ => [.cal, .walker, .ctrl]
  | .attentionConfiguration _ | .rootWrite _ | .eventsClear _ | .registerWrite _ _ | .eventArrival _
  | .statusTimerExpiry => [.ctrl]
  | .notice _ | .pollExpiry | .lookBegin => [.walker]
  | .accessPresent _ => [.tide, .cal, .occ, .walker, .port, .ctrl]
  | .grant | .busAnswer _ => [.corr, .tide, .cal, .occ, .drift, .walker, .order, .port, .ctrl]
  | .startMark _ _ | .trackerLock _ _ | .missedCell _ _ _ => [.links]
  | .headerComplete _ _ | .frameEnd _ _ | .timingLoss _ _ | .silenceExpiry _ => [.links, .corr, .occ, .ctrl]
  | .headResetLinkPart => [.links, .corr, .occ, .order, .ctrl]
  | .frameChoice => [.links, .corr, .occ]
  | .judgingEvent => [.corr, .occ, .ctrl]
  | .deliveryForming => [.corr]
  | .tideLookup => [.corr, .tide, .order, .walker, .ctrl]
  | .headResetJudgePart => [.corr, .occ, .order, .ctrl]
  | .linkDownAtCorrection _ => [.corr, .occ, .ctrl]
  | .identityReport _ | .interruption _ | .settleExpiry _ | .acquireExpiry _ | .graceExpiry _
  | .linkTransitionAtRecord _ => [.occ, .cal]
  | .judgeTransitionSettled _ => [.occ]
  | .disposition => [.occ, .corr]
  | .credit => [.occ, .cal, .corr]
  | .headResetRecordPart | .cancel => [.occ, .cal, .order]
  | .join _ => [.occ, .drift, .walker, .ctrl]
  | .landingReport _ | .failureReport _ | .finalizationEntry => [.drift]
  | .spanExpiry _ => [.drift, .ctrl]
  | .calibrationCheck => [.cal, .walker]
  | .take => [.cal, .walker, .drift, .occ, .ctrl]
  | .orderTake => [.order, .walker, .ctrl]
  | .setClock => [.order, .ctrl]
  | .setHead => [.links, .corr, .occ, .order, .ctrl]
  | .loadCal | .clearCal => [.cal, .order]
  | .swapTide => [.tide, .order]
  | .cancelWithdrawal => [.drift, .order]
  | .abortLoop => [.drift, .order, .ctrl]
  | .headReset => [.order]

theorem answers_next {bs : List Block} {s t : State} {o : Host.Outcome State Fault Refusal}
    (h : o = .next t) (f : unchangedBut bs s t) : ∃ t, o = .next t ∧ unchangedBut bs s t := ⟨t, h, f⟩

/-- Every command answers a next state, and changes no block but those named. -/
theorem exec_frame (c : Instr) (s : State) : ∃ t, exec c s = .next t ∧ unchangedBut (mayChange c) s t := by
  cases c with
  | powerOnReset => exact answers_next rfl ⟨rfl, fun b hb => by cases b <;> simp [mayChange] at hb⟩
  | reset w => exact answers_next rfl ⟨rfl, fun b hb => by cases b <;> simp [mayChange] at hb⟩
  | run w => exact answers_next rfl ((loadConfig_frame s w).andThen (runCommand_frame _) (by simp [mayChange]))
  | stop w => exact answers_next rfl ((loadConfig_frame s w).andThen (stopCommand_frame _) (by simp [mayChange]))
  | attentionConfiguration w => exact answers_next rfl (loadConfig_frame s w)
  | rootWrite w => exact answers_next rfl (frame_ctrl s _)
  | notice w =>
    refine answers_next rfl ?_
    split
    · exact setAllFlags_frame s
    · exact unchangedBut_self _ s
  | eventsClear w => exact answers_next rfl (frame_ctrl s _)
  | registerWrite r w =>
    cases r with
    | ident => exact answers_next rfl (unchangedBut_self _ s)
    | state => exact answers_next rfl (unchangedBut_self _ s)
    | eventEnable => exact answers_next rfl (frame_ctrl s _)
  | eventArrival e =>
    refine answers_next rfl ?_
    split
    · exact frame_ctrl s _
    · exact unchangedBut_self _ s
  | accessPresent r =>
    by_cases h : s.slot r = none
    · exact answers_next (if_pos h) (presentNext_frame s r)
    · exact answers_next (if_neg h) (unchangedBut_self _ s)
  | grant =>
    simp only [exec, execGrant]
    split
    · split
      · exact answers_next rfl (unchangedBut_self _ s)
      · split
        · exact answers_next rfl (unchangedBut_self _ s)
        · exact answers_next rfl (formGrant_frame s _ _)
    · exact answers_next rfl (unchangedBut_self _ s)
  | busAnswer a =>
    simp only [exec, execBusAnswer]
    split
    · exact answers_next rfl (unchangedBut_self _ s)
    · split
      · exact answers_next rfl ((discardedAnswer_frame s).widen (by simp [mayChange]))
      · split
        · split
          · exact answers_next rfl (grantOkay_frame s _ _)
          · exact answers_next rfl (unchangedBut_self _ s)
        · exact answers_next rfl (grantRetry_frame s _)
        · exact answers_next rfl ((setGrant_frame s _).andThen (portFault_frame _ _ _ _ _) (by simp [mayChange]))
  | statusTimerExpiry =>
    refine answers_next rfl ?_
    split
    · exact (frame_ctrl s _).andThen (requestRefresh_frame _) (by simp [mayChange])
    · exact unchangedBut_self _ s
  | startMark h cells =>
    simp only [exec, execStartMark]
    split
    · split
      · exact answers_next rfl (updLink_frame s h _)
      · exact answers_next rfl (updLink_frame s h _)
      · exact answers_next rfl (unchangedBut_self _ s)
    · exact answers_next rfl (unchangedBut_self _ s)
  | headerComplete h cells =>
    simp only [exec, execHeaderComplete]
    split
    · exact answers_next rfl (collect_frame s h cells _ fun bs t => checkHeader_frame t h bs)
    · exact answers_next rfl (unchangedBut_self _ s)
  | frameEnd h cells =>
    simp only [exec, execFrameEnd]
    split
    · exact answers_next rfl (collect_frame s h cells _ fun bs t => checkFrame_frame t h bs)
    · exact answers_next rfl (unchangedBut_self _ s)
  | timingLoss h cell =>
    simp only [exec, execTimingLoss]
    split
    · split
      · exact answers_next rfl (unchangedBut_self _ s)
      · exact answers_next rfl ((updLink_frame s h _).andThen (badFrame_frame _ h) (by simp [mayChange]))
    · exact answers_next rfl (unchangedBut_self _ s)
  | silenceExpiry h =>
    refine answers_next rfl ?_
    split
    · exact linkDown_frame s h _
    · exact unchangedBut_self _ s
  | headResetLinkPart =>
    simp only [exec, execHeadResetLinkPart]
    split
    · refine answers_next rfl ?_
      split
      · exact ((linkDown_frame s _ _).andThen (updLink_frame _ _ _) (fun _ m => m)).andThen
          (resetPart_frame _ _ _ _) (by simp [mayChange])
      · exact (updLink_frame s _ _).andThen (resetPart_frame _ _ _ _) (by simp [mayChange])
    · exact answers_next rfl (unchangedBut_self _ s)
  | frameChoice =>
    simp only [exec, execFrameChoice]
    split
    · exact answers_next rfl (unchangedBut_self _ s)
    · split
      · exact answers_next rfl (unchangedBut_self _ s)
      · split
        · exact answers_next rfl ((removeFrame_frame s _).andThen (takeIdent_frame _ _ _) (by simp [mayChange]))
        · exact answers_next rfl ((removeFrame_frame s _).andThen (beginFrame_frame _ _ _) (by simp [mayChange]))
  | judgingEvent =>
    simp only [exec, execJudgingEvent]
    split
    · exact answers_next rfl (unchangedBut_self _ s)
    · split
      · exact answers_next rfl (judgeNext_frame s _ _)
      · exact answers_next rfl (unchangedBut_self _ s)
  | deliveryForming =>
    simp only [exec, execDeliveryForming]
    split
    · exact answers_next rfl (unchangedBut_self _ s)
    · split
      · split
        · exact answers_next rfl (unchangedBut_self _ s)
        · exact answers_next rfl (formDelivery_frame s _ _ _ _ _)
      · exact answers_next rfl (unchangedBut_self _ s)
  | tideLookup =>
    simp only [exec, execTideLookup]
    split
    · split
      · exact answers_next rfl (beginLookup_frame s _)
      all_goals exact answers_next rfl (unchangedBut_self _ s)
    · exact answers_next rfl (unchangedBut_self _ s)
  | headResetJudgePart =>
    simp only [exec, execHeadResetJudgePart]
    split
    · split
      · exact answers_next rfl ((((judgeClear_frame s _).andThen (updHead_frame _ _ _) (fun _ m => m)).andThen
          (abandonFrame_frame _ _) (fun _ m => m)).andThen (resetPart_frame _ _ _ _) (by simp [mayChange]))
      · exact answers_next rfl (unchangedBut_self _ s)
    · exact answers_next rfl (unchangedBut_self _ s)
  | linkDownAtCorrection h =>
    simp only [exec, execLinkDownAtCorrection]
    split
    · exact answers_next rfl ((updDownMsgs_frame s h _).andThen (judgeClear_frame _ h) (by simp [mayChange]))
    · exact answers_next rfl (unchangedBut_self _ s)
  | identityReport h =>
    simp only [exec, execIdentityReport]
    split
    · exact answers_next rfl (unchangedBut_self _ s)
    · exact answers_next rfl ((updInbox_frame s h _).andThen (identityAtRecord_frame _ h _) (by simp [mayChange]))
  | judgeTransitionSettled h =>
    simp only [exec, execJudgeTransitionSettled]
    split
    · refine answers_next rfl ?_
      split
      · exact (updInbox_frame s h _).andThen (enterAcquiring_frame _ h) (by simp [mayChange])
      · exact updInbox_frame s h _
    · exact answers_next rfl (unchangedBut_self _ s)
    · exact answers_next rfl (unchangedBut_self _ s)
  | interruption h =>
    simp only [exec, execInterruption]
    split
    · refine answers_next rfl ?_
      split
      · exact (updInbox_frame s h _).andThen (interrupt_frame _ h) (by simp [mayChange])
      · exact (updInbox_frame s h _).widen (by simp [mayChange])
    · exact answers_next rfl (unchangedBut_self _ s)
    · exact answers_next rfl (unchangedBut_self _ s)
  | disposition =>
    simp only [exec, execDisposition]
    split
    · exact answers_next rfl (unchangedBut_self _ s)
    · split
      · split
        · split
          · exact answers_next rfl (unchangedBut_self _ s)
          · exact answers_next rfl ((takeDisposition_frame s _ _ _ _).andThen (sampleDone_frame _ _) (by simp [mayChange]))
        · exact answers_next rfl ((sampleDone_frame s _).widen (by simp [mayChange]))
      · exact answers_next rfl (unchangedBut_self _ s)
  | credit =>
    simp only [exec, execCredit]
    split
    · exact answers_next rfl (unchangedBut_self _ s)
    · split
      · split
        · split
          · exact answers_next rfl (unchangedBut_self _ s)
          · exact answers_next rfl ((takeCredit_frame s _ _ _ _).andThen (sampleDone_frame _ _) (by simp [mayChange]))
        · exact answers_next rfl ((sampleDone_frame s _).widen (by simp [mayChange]))
      · exact answers_next rfl (unchangedBut_self _ s)
  | settleExpiry h =>
    simp only [exec, execSettleExpiry]
    split
    · exact answers_next rfl (endOccupation_frame s h _)
    · exact answers_next rfl (unchangedBut_self _ s)
  | acquireExpiry h =>
    simp only [exec, execAcquireExpiry]
    split
    · exact answers_next rfl (endOccupation_frame s h _)
    · exact answers_next rfl (unchangedBut_self _ s)
  | graceExpiry h =>
    simp only [exec, execGraceExpiry]
    split
    · exact answers_next rfl (endOccupation_frame s h _)
    · exact answers_next rfl (unchangedBut_self _ s)
  | linkTransitionAtRecord h =>
    simp only [exec, execLinkTransitionAtRecord]
    split
    · exact answers_next rfl (unchangedBut_self _ s)
    · exact answers_next rfl ((updInbox_frame s h _).andThen (linkAtRecord_frame _ h _) (by simp [mayChange]))
  | headResetRecordPart =>
    simp only [exec, execHeadResetRecordPart]
    split
    · split
      · exact answers_next rfl (unchangedBut_self _ s)
      · refine answers_next rfl ?_
        split
        · exact (endOccupation_frame s _ _).andThen (resetPart_frame _ _ _ _) (by simp [mayChange])
        · exact (resetPart_frame s _ _ _).widen (by simp [mayChange])
    · exact answers_next rfl (unchangedBut_self _ s)
  | join h =>
    simp only [exec, execJoin]
    split
    · exact answers_next rfl ((joinOf_frame s h _).andThen (joinAnswered_frame _ h _) (by simp [mayChange]))
    · exact answers_next rfl (unchangedBut_self _ s)
  | landingReport h =>
    simp only [exec, execLandingReport]
    split
    · exact answers_next rfl ((setReport_frame s h _).andThen (landReport_frame _ h _) (by simp [mayChange]))
    · exact answers_next rfl (unchangedBut_self _ s)
    · exact answers_next rfl (unchangedBut_self _ s)
  | failureReport h =>
    simp only [exec, execFailureReport]
    split
    · exact answers_next rfl ((setReport_frame s h _).andThen (failReport_frame _ h) (by simp [mayChange]))
    · exact answers_next rfl (unchangedBut_self _ s)
    · exact answers_next rfl (unchangedBut_self _ s)
  | spanExpiry l =>
    simp only [exec, execSpanExpiry]
    split
    · exact answers_next rfl (expireLoop_frame s l)
    · exact answers_next rfl (unchangedBut_self _ s)
  | finalizationEntry =>
    simp only [exec, execFinalizationEntry]
    split
    · split
      · exact answers_next rfl (frame_drift s _)
      · exact answers_next rfl (unchangedBut_self _ s)
    · exact answers_next rfl (unchangedBut_self _ s)
  | pollExpiry =>
    simp only [exec, execPollExpiry]
    split
    · exact answers_next rfl (frame_walker s _)
    · exact answers_next rfl (unchangedBut_self _ s)
  | lookBegin =>
    simp only [exec, execLookBegin]
    split
    · exact answers_next rfl (frame_walker s _)
    · exact answers_next rfl (unchangedBut_self _ s)
  | calibrationCheck =>
    simp only [exec, execCalibrationCheck]
    split
    · exact answers_next rfl (unchangedBut_self _ s)
    · split
      · split
        · exact answers_next rfl ((updCalSet_frame s _ _).andThen (setLook_frame _ _) (by simp [mayChange]))
        · exact answers_next rfl (refuseSheet_frame s _ _)
      · exact answers_next rfl (unchangedBut_self _ s)
  | take =>
    simp only [exec, execTake]
    split
    · exact answers_next rfl (unchangedBut_self _ s)
    · split
      · split
        · exact answers_next rfl (unchangedBut_self _ s)
        · exact answers_next rfl (takeStation_frame s _ _ _ _)
      · exact answers_next rfl (unchangedBut_self _ s)
  | orderTake =>
    simp only [exec, execOrderTake]
    split
    · exact answers_next rfl (unchangedBut_self _ s)
    · split
      · exact answers_next rfl ((frame_order s _).andThen (passCandidate_frame _ _ _) (by simp [mayChange]))
      · exact answers_next rfl (unchangedBut_self _ s)
  | setClock =>
    simp only [exec, execSetClock]
    split
    · split
      · exact answers_next rfl ((frame_ctrl s _).andThen (orderDone_frame _) (by simp [mayChange]))
      · exact answers_next rfl ((orderRefused_frame s _).widen (by simp [mayChange]))
    · exact answers_next rfl (unchangedBut_self _ s)
  | setHead =>
    simp only [exec, execSetHead]
    split
    · split
      · exact answers_next rfl (setHead_frame s _ _)
      · exact answers_next rfl ((orderRefused_frame s _).widen (by simp [mayChange]))
    · exact answers_next rfl (unchangedBut_self _ s)
  | loadCal =>
    simp only [exec, execLoadCal]
    split
    · split
      · exact answers_next rfl (((updCalSet_frame s _ _).andThen (setLoad_frame _ _) (fun _ m => m)).andThen
          (orderWaits_frame _ _) (by simp [mayChange]))
      · exact answers_next rfl ((orderRefused_frame s _).widen (by simp [mayChange]))
    · exact answers_next rfl (unchangedBut_self _ s)
  | clearCal =>
    simp only [exec, execClearCal]
    split
    · split
      · exact answers_next rfl ((updCalSet_frame s _ _).andThen (orderDone_frame _) (by simp [mayChange]))
      · exact answers_next rfl ((orderRefused_frame s _).widen (by simp [mayChange]))
    · exact answers_next rfl (unchangedBut_self _ s)
  | swapTide =>
    simp only [exec, execSwapTide]
    split
    · split
      · exact answers_next rfl ((changeTable_frame s _).andThen (orderDone_frame _) (by simp [mayChange]))
      · exact answers_next rfl ((frame_tide s _).andThen (orderWaits_frame _ _) (by simp [mayChange]))
    · exact answers_next rfl (unchangedBut_self _ s)
  | cancel =>
    simp only [exec, execCancel]
    split
    · split
      · exact answers_next rfl ((orderWaits_frame s _).widen (by simp [mayChange]))
      · split
        · exact answers_next rfl ((endOccupation_frame s _ _).andThen (orderDone_frame _) (by simp [mayChange]))
        · exact answers_next rfl ((orderRefused_frame s _).widen (by simp [mayChange]))
    · exact answers_next rfl (unchangedBut_self _ s)
  | cancelWithdrawal =>
    simp only [exec, execCancelWithdrawal]
    split
    · split
      · exact answers_next rfl ((withdraw_frame s _ _).andThen (orderDone_frame _) (by simp [mayChange]))
      · split <;> exact answers_next rfl ((orderRefused_frame s _).widen (by simp [mayChange]))
    · exact answers_next rfl (unchangedBut_self _ s)
  | abortLoop =>
    simp only [exec, execAbortLoop]
    split
    · split
      · exact answers_next rfl ((detachLoop_frame s _ _ _).andThen (orderDone_frame _) (by simp [mayChange]))
      · exact answers_next rfl ((orderRefused_frame s _).widen (by simp [mayChange]))
    · exact answers_next rfl (unchangedBut_self _ s)
  | headReset =>
    simp only [exec, execHeadReset]
    split
    · exact answers_next rfl (orderWaits_frame s _)
    · exact answers_next rfl (unchangedBut_self _ s)
  | trackerLock h vs =>
    simp only [exec, execTrackerLock]
    split
    · split
      · exact answers_next rfl (updLink_frame s h _)
      · exact answers_next rfl (updLink_frame s h _)
      · exact answers_next rfl (unchangedBut_self _ s)
    · exact answers_next rfl (unchangedBut_self _ s)
  | missedCell h cells cell =>
    simp only [exec, execMissedCell]
    split
    · split
      · exact answers_next rfl (unchangedBut_self _ s)
      · exact answers_next rfl (updLink_frame s h _)
    · exact answers_next rfl (unchangedBut_self _ s)

/-- The frame of a command that has answered a next state. -/
theorem frame_of_exec {c : Instr} {s t : State} (h : exec c s = .next t) : unchangedBut (mayChange c) s t := by
  obtain ⟨u, e, f⟩ := exec_frame c s
  rw [h] at e
  cases e
  exact f

/-- An OKAY that completes an access hands its words to the requester. -/
theorem exec_okay_of_completes {r : Requester} {data ws : List Word} {s : State} (h : completes r data ws s) :
    exec (.busAnswer (.okay data)) s = .next ((s.freed r).requesterOkay r ws) := by
  obtain ⟨g, x, hg, hd, rfl, hf, hx, hc, rfl⟩ := h
  have hs : (s.setGrant none).slot g.requester = some x := hx
  simp [exec, execBusAnswer, hg, hd, answerFits, hf, State.grantOkay, hs, grantDone, hc, State.freed, wordsRead]

/-- An ERROR ends the access of the grant in flight with a BUS_ERROR fault. -/
theorem exec_error {g : Grant} {s : State} (hg : s.port.grant = some g) (hd : g.discard = false) :
    exec (.busAnswer .error) s =
      .next ((s.setGrant none).portFault g.requester g.direction g.address .busError) := by
  simp [exec, execBusAnswer, hg, hd]

/-- A command that ends an access with a fault leaves the port without a grant and hands the fault to the requester. -/
theorem exec_of_faults {r : Requester} {k : FaultKind} {c : Instr} {s : State} (h : faults r k c s) :
    ∃ (p : Fin 6) (d : Direction) (a : Nat), exec c s =
      .next (State.portFault r d a k { s with port := { s.port with pointer := p, grant := none } }) := by
  cases k with
  | window =>
    obtain ⟨rfl, hg, hc, x, hx, hp⟩ := h
    refine ⟨r.number, x.access.direction, x.access.address + 4 * x.done, ?_⟩
    have hs : s.port.slots[r.number] = some x := hx
    have hp' : ({ s with port := { s.port with pointer := r.number } } : State).grantPasses x.access.window
        (grantOf r s.port.grantSize x) = false := hp
    have hu : ({ s with port := { s.port with pointer := r.number } } : State) =
        { s with port := { s.port with pointer := r.number, grant := none } } := by rw [← hg]
    show execGrant s = _
    unfold execGrant
    rw [if_pos hg, hc]
    simp only [hs, State.formGrant, requesterAt_number, hp', Bool.false_eq_true, if_false]
    rw [hu]
    rfl
  | retryExhausted =>
    obtain ⟨rfl, g, hg, hd, rfl, hr⟩ := h
    refine ⟨s.port.pointer, g.direction, g.address, ?_⟩
    simp [exec, execBusAnswer, hg, hd, State.grantRetry, Nat.not_lt.mpr hr, State.setGrant]
  | busError =>
    obtain ⟨rfl, g, hg, hd, rfl⟩ := h
    exact ⟨s.port.pointer, g.direction, g.address, exec_error hg hd⟩

/-- What a requester finds at a fault of its access: no grant, its slot free, the fault recorded and MEMFAULT raised (R180). -/
theorem requesterFault_of_faults {r : Requester} {k : FaultKind} {c : Instr} {s : State} (h : faults r k c s) :
    ∃ (u : State) (d : Direction) (a : Nat), exec c s = .next (u.requesterFault r k) ∧
      u.port.lastFault = some ⟨r, d, a, k⟩ ∧ u.port.grant = none ∧ u.slot r = none ∧
      u.ctrl = { s.ctrl with raised := s.ctrl.raised ++ [.memfault] } ∧ unchangedBut [.port, .ctrl] s u := by
  obtain ⟨p, d, a, e⟩ := exec_of_faults h
  have f := (frame_port s { s.port with pointer := p, grant := none }).andThen (recordFault_frame _ r d a k)
    (cs := [.port, .ctrl]) (by decide)
  exact ⟨_, d, a, e, rfl, rfl, setSlot_slot_same _ r none, rfl, f⟩

/-- A join that can be taken is answered at its record. -/
theorem exec_join {h : Head} {s : State} (h1 : (s.record h).state = .writing)
    (h2 : (s.record h).step = some .join) (h3 : s.reportAt h = none) :
    exec (.join h) s =
      .next ((s.joinOf h (s.record h)).1.joinAnswered h (s.joinOf h (s.record h)).2) := by
  have e : (s.record h).state = .writing ∧ (s.record h).step = some .join ∧ s.reportAt h = none := ⟨h1, h2, h3⟩
  show execJoin h s = _
  unfold execJoin
  simp only [e, and_self, if_true]

/-- With no finished scan that waits, there is nothing to commit. -/
theorem commitIfReady_none {s : State} (h : ∀ p, s.tide.pendingTable = some p → p.nextIndex ≠ p.count) :
    s.commitIfReady = s := by
  unfold State.commitIfReady
  split
  · rw [if_neg (h _ (by assumption))]
  · rfl

/-- A step is a command on the queue's rest, or, on an empty queue, one millisecond. -/
theorem step_cases {s t : State} (h : step s = .next t) :
    (s.pending = [] ∧ t = s.tick) ∨
      ∃ c rest, s.pending = c :: rest ∧ exec c { s with pending := rest } = .next t := by
  unfold step at h
  split at h
  · rename_i e
    cases h
    exact .inl ⟨e, rfl⟩
  · rename_i c rest e
    exact .inr ⟨c, rest, e, h⟩

end Sys2Proof.Machine
end

