-- ==== Sys2Proof/Laws/Words.lean ====
section
/-! SUPPORT. The fields of the words that the GC4 writes, read back (12). -/

namespace Sys2Proof.Machine

theorem byteOf_packBytes (a b c d : Byte) : byteOf (packBytes a b c d) 0 = a ∧ byteOf (packBytes a b c d) 1 = b ∧
    byteOf (packBytes a b c d) 2 = c ∧ byteOf (packBytes a b c d) 3 = d := by
  unfold byteOf packBytes
  refine ⟨?_, ?_, ?_, ?_⟩ <;> ext i h <;> simp <;> grind

theorem halfOf_packHalves (x y : BitVec 16) :
    halfOf (packHalves x y) 0 = x ∧ halfOf (packHalves x y) 1 = y := by
  unfold halfOf packHalves
  constructor <;> ext i h <;> simp <;> grind

theorem byteOf_packHalves (x : BitVec 16) (b c : Byte) :
    byteOf (packHalves x (c ++ b)) 2 = b ∧ byteOf (packHalves x (c ++ b)) 3 = c := by
  unfold byteOf packHalves
  constructor <;> ext i h <;> simp <;> grind

/-- A byte with three fill bytes. -/
theorem packBytes_fill (b : Byte) : packBytes b 0 0 0 = b.setWidth 32 := by
  unfold packBytes
  ext i h
  simp
  grind

/-- The two words of a 64-bit field. -/
theorem dwordWords_append (x : Dword) : x.extractLsb' 32 32 ++ x.extractLsb' 0 32 = x := by
  ext i h
  simp
  grind

theorem i64Words_eq (x : Int) : ∃ lo hi, i64Words x = [lo, hi] ∧ holdsI64 lo hi x := by
  refine ⟨_, _, rfl, ?_⟩
  unfold holdsI64
  rw [dwordWords_append, BitVec.toInt_ofInt]
  unfold clamp64 i64Min i64Max
  split
  · decide
  · split
    · decide
    · exact Int.bmod_eq_of_le (by omega) (by omega)

theorem u64Words_eq (t : Nat) : ∃ lo hi, u64Words t = [lo, hi] ∧ hi ++ lo = BitVec.ofNat 64 t :=
  ⟨_, _, rfl, dwordWords_append _⟩

theorem flagsWord_bits (a b c : Bool) (i : Nat) :
    (flagsWord a b c).getLsbD i = (i == 0 && a || i == 1 && b || i == 2 && c) := by
  by_cases h : i < 32
  · revert i a b c
    decide
  · rw [BitVec.getLsbD_of_ge _ _ (by omega)]
    have : (i == 0) = false ∧ (i == 1) = false ∧ (i == 2) = false := by
      simp only [beq_eq_false_iff_ne]
      omega
    simp [this]

end Sys2Proof.Machine
end

