-- ==== Sys2Proof/Tests/Slice0.lean ====
section
/-! SUPPORT. Tests: ill-formed commands refused, worked examples of spec/, and, for each statement with hypotheses, a
concrete state and operands that meet them (`witness`), clause by clause. -/

namespace Sys2Proof.Tests

open Sys2Proof Sys2Proof.Machine

/-! ## Well-formed commands -/

theorem test_run_needs_run_alone : (Instr.run 3).wellFormed = false ∧ (Instr.run 1).wellFormed = true := by decide
theorem test_stop_needs_stop_alone : (Instr.stop 0).wellFormed = false ∧ (Instr.stop 2).wellFormed = true := by decide
theorem test_reset_needs_reset : (Instr.reset 3).wellFormed = false ∧ (Instr.reset 7).wellFormed = true := by decide
theorem test_attention_takes_no_command :
    (Instr.attentionConfiguration 1).wellFormed = false ∧
      (Instr.attentionConfiguration 0x130).wellFormed = true ∧
      (Instr.attentionConfiguration 3).wellFormed = true := by decide
theorem test_grant_is_at_most_64_words :
    (Instr.busAnswer (.okay (List.replicate 65 0))).wellFormed = false ∧
      (Instr.busAnswer (.okay (List.replicate 64 0))).wellFormed = true := by decide
/-- A run of `n` cells of 0, one after another. -/
def placedCells (n : Nat) : List TrackCell := (List.range n).map fun i => ⟨some i, none⟩

theorem test_header_is_at_most_40_cells :
    (Instr.headerComplete 0 (placedCells 41)).wellFormed = false ∧
      (Instr.headerComplete 0 (placedCells 40)).wellFormed = true := by decide
theorem test_frame_is_at_most_1040_cells :
    (Instr.frameEnd 0 (placedCells 1041)).wellFormed = false := by decide +kernel
theorem test_cells_come_in_order :
    (Instr.frameEnd 0 [⟨some 5, some 5⟩]).wellFormed = false ∧
      (Instr.startMark 0 [⟨some 5, none⟩, ⟨some 4, none⟩]).wellFormed = false ∧
      (Instr.startMark 0 [⟨some 5, some 6⟩, ⟨none, some 7⟩]).wellFormed = true ∧
      (Instr.missedCell 0 [⟨some 5, none⟩] ⟨none, some 3⟩).wellFormed = false ∧
      (Instr.missedCell 0 [⟨some 5, none⟩] ⟨none, none⟩).wellFormed = true ∧
      (Instr.timingLoss 0 ⟨some 2, some 1⟩).wellFormed = false ∧
      (Instr.timingLoss 0 ⟨none, some 1⟩).wellFormed = true := by decide
theorem test_lock_needs_intervals_that_follow :
    (Instr.trackerLock 0 []).wellFormed = false ∧ (Instr.trackerLock 0 [⟨0, 8681, []⟩]).wellFormed = true ∧
      (Instr.trackerLock 0 [⟨0, 8681, [8681]⟩]).wellFormed = false ∧
      (Instr.trackerLock 0 [⟨0, 8681, []⟩, ⟨8682, 17362, []⟩]).wellFormed = false ∧
      (Instr.trackerLock 0 [⟨0, 8681, []⟩, ⟨8681, 17362, [13021]⟩]).wellFormed = true := by decide

/-! ## Worked examples of spec/ -/

/-- R123: the CRC of the digits 1 to 9. -/
theorem test_crc_of_digits : crc16 [0x31, 0x32, 0x33, 0x34, 0x35, 0x36, 0x37, 0x38, 0x39] = 0x29B1 := by
  decide +kernel

/-- Chapter 04, the example of one sample. -/
theorem test_reading : readingOf 1200012345 534183937 = 9781300642406 := by decide
theorem test_tilt_term : tiltTermOf 4903 13 (-12) = 1535 := by decide

def examplePoints : List (Int × Int) := [(-20000, 3200), (0, 0), (15000, -2750), (40000, -9100)]

theorem test_temperature_terms :
    ([6123, -25000, -20000, -5000, 0, 27500, 40000, 40001] : List Int).map (tempTermOf examplePoints) =
      [(-1123, false), (3200, true), (3200, false), (800, false), (0, false), (-5925, false), (-9100, false),
        (-9100, true)] := by decide

def segment4 : Segment := ⟨36000000, 3600000, -410000, 52000, -8400, 1200⟩

theorem test_tide_term : tideTermOf segment4 36900000 = -397506 := by decide
theorem test_corrected : correctedOf 9781300642406 1535 (-1123) (-397506) = 9781300245312 := by decide

/-- Chapter 04, the example of a mean: a tie, away from zero. -/
theorem test_mean : meanOf (4 * 9781300245300 + 38) 4 = 9781300245310 ∧ meanOf 6135 4 = 1534 := by decide

/-- Chapter 02, entries e0, e3 and e4 of the worked sequence. -/
theorem test_drift_amounts :
    roundDiv (-64800000000) 14400000 = -4500 ∧ roundDiv 738000000000 14400000 = 51250 ∧
      roundDiv 936007200000 14400000 = 65001 := by decide

/-- Chapter 03, the tripod that settles and slips: samples 13, 14 and 16 at a SETTLED judge. -/
theorem test_tripod :
    let x : HeadState := { judge := .settled, prevTemp := some 1052, tempStep := 50, runIn := 4, runOut := 2 }
    let y := judgeSample x ⟨0, 35, 10, 1060, 0, 0⟩
    let z := judgeSample y ⟨0, 45, 0, 1070, 0, 0⟩
    let w := judgeSample z ⟨0, 20, 0, 1130, 0, 0⟩
    y.outRun = 0 ∧ z.outRun = 1 ∧ z.judge = .settled ∧ w.judge = .unsettled ∧ w.prevTemp = some 1130 := by decide

/-- Chapter 03, stamping one frame. -/
theorem test_stamps :
    [150, 100, 50, 0].map (sampleTime 36010000 150) = [36009700, 36009750, 36009800, 36009850] ∧
      sampleTime 100 150 0 = 0 := by decide

/-- Chapter 06, lookup L1: the first probe of 24 segments is 12, and the cache after L6 and L7. -/
theorem test_cache_order :
    let entry := fun i => (⟨i, segment4⟩ : CacheEntry)
    ((insertCache (entry 8) (touchCache (entry 4) [entry 4, entry 5, entry 7])).map CacheEntry.index =
        [5, 7, 4, 8]) ∧
      (insertCache (entry 9) [entry 5, entry 7, entry 4, entry 8]).map CacheEntry.index = [7, 4, 8, 9] := by
  decide

/-- Chapter 12: the lengths of what the part writes, and the start mark as it passes on the line. -/
theorem test_write_lengths :
    (resultWords {}).length = 27 ∧ State.reset.snapshot.length = 111 ∧
      (trailWords ⟨0, ⟨0, 0, 0, 0, 0, 0⟩, .accepted, 0⟩).length = 8 ∧
      (driftWords false false ⟨.none, 0, 0, false, 0, 0⟩).length = 9 ∧
      bytesAsBits [0xB4, 0x2D] = Config.startMark := by decide

/-- The table gives no row any bits: no word spells a command. -/
theorem test_no_word_spells_a_command : decodeTableWord 0 0 = none ∧ decodeTableWord 32 1 = none := by decide

theorem test_ident : State.reset.readIdent = 0x01043D71 := by decide

/-! ## States for the witnesses -/

/-- Reset, with one block replaced. -/
def ctrlIs (c : ControlPort) : State := { State.reset with ctrl := c }
def recordIs (r : OccRecord) : State := State.reset.updRecord 0 fun _ => r
def linkIs (l : LinkReceiver) : State := State.reset.updLink 0 fun _ => l
def orderIs (o : OrderExecutor) : State := { State.reset with order := o }
def loopIs (l : Loop) : State := State.reset.updLoop 0 fun _ => l

/-- A look at lane `n` in a stage, with candidate 1000h. -/
def lookAt (n : Lane) (g : LookStage) : Look := ⟨n, .waiting, 0, 0x1000, 0, g, false, false, none, 0, none⟩
def lookIs (k : Look) : State := State.reset.setLook (some k)

/-- Requester `r` has an access of `n` words in flight as one grant. -/
def inFlight (r : Requester) (d : Direction) (n : Nat) (s : State) : State :=
  (s.setSlot r (some ⟨⟨d, .none, 0, n, []⟩, 0, []⟩)).setGrant (some ⟨r, d, 0, n, [], 0, false⟩)

theorem inFlight_grant (r : Requester) (d : Direction) (n : Nat) (s : State) :
    (inFlight r d n s).port.grant = some ⟨r, d, 0, n, [], 0, false⟩ := rfl

/-- The answer of such a grant completes the access. -/
theorem inFlight_completes (r : Requester) (d : Direction) (data : List Word) (s : State) :
    completes r data (if d = .read then data else []) (inFlight r d data.length s) :=
  ⟨_, ⟨⟨d, .none, 0, data.length, []⟩, 0, []⟩, rfl, rfl, rfl, .inr rfl, by
      simp [inFlight, State.setGrant, State.setSlot, State.slot], by simp, by cases d <;> simp [wordsRead]⟩

/-- A sample, a calibration set that passes it, and a frame of four samples. -/
def goodSample : Sample := ⟨1000, 0, 0, 0, 0, 0⟩
def goodCal : CalContents :=
  { scale := 65536, tiltMax := 100, cntMax := 2000, tMax := 100, points := [(0, 0), (10, 5)] }
def sampleFrame : Frame := ⟨.sample, 0, List.replicate 16 0, 0, 0⟩
def identFrame : Frame := ⟨.ident, 0, List.replicate 8 0, 0, 0⟩
def context (o : Options) : Context := ⟨0, 0, o, goodCal⟩
def evaluator (o : Options) (p : EvalPhase) : Evaluator := ⟨0, sampleFrame, some (context o), [goodSample], p⟩
def candidate : Candidate := ⟨1000, 0, 0, false, 0, 1000⟩

/-- A record in a state under evaluation in a phase. -/
def underEvaluation (r : OccRecord) (o : Options) (p : EvalPhase) : State :=
  (recordIs r).setEvaluator (some (evaluator o p))

/-- A record that has entered WRITING with an outcome and waits for its join. -/
def joining (role : Role) (loop : Option LoopId) (o : OccOutcome) (failed : Bool) : OccRecord :=
  { state := .writing, step := some .join, role := role, loopId := loop, outcome := some o, joinFailed := failed }

/-- A pool entry of head 0. -/
def entry (p : EntryPhase) : PoolEntry := ⟨p, 0, some ⟨0x1000, false, false⟩, 0, 0, 0⟩
def reservedEntry0 : PoolEntry := ⟨.reserved, 0, none, 0, 0, 0⟩
def batchesAre (bs : List Batch) : State := { State.reset with drift := { State.reset.drift with batches := bs } }

/-! ## Witnesses: Control Port, Memory Port -/

theorem test_witness_front : (∃ s : State, s.pending = .grant :: []) ∧ State.reset.pending = [] :=
  ⟨⟨{ State.reset with pending := [.grant] }, rfl⟩, rfl⟩

theorem test_witness_control_words :
    (Instr.run 1).wellFormed = true ∧ (Instr.stop 2).wellFormed = true ∧ (Instr.reset 4).wellFormed = true ∧
      (Instr.attentionConfiguration 0).wellFormed = true ∧ (Instr.run 0x0131).wellFormed = true := by decide

theorem test_witness_engine_states (e : EngineState) : ∃ s : State, s.ctrl.engine = e := ⟨ctrlIs { engine := e }, rfl⟩

/-- RunByEngineState: the grant in flight is the Control Port's, another's, or none. -/
theorem test_witness_run_grants :
    (∃ s : State, s.ctrl.engine = .faulted ∧ ∃ g, s.port.grant = some g ∧ g.requester = .controlPort) ∧
      (∃ s : State, s.ctrl.engine = .halted ∧ ∃ g, s.port.grant = some g ∧ g.requester ≠ .controlPort) ∧
      (∃ s : State, s.ctrl.engine = .halted ∧ s.port.grant = none) :=
  ⟨⟨inFlight .controlPort .write 1 (ctrlIs { engine := .faulted }), rfl, _, rfl, rfl⟩,
    ⟨inFlight .driftUnit .write 1 State.reset, rfl, _, rfl, by decide⟩, ⟨State.reset, rfl, rfl⟩⟩

/-- StopFromRunning: the stop condition holds, does not hold; a look with a write placed, one without. -/
theorem test_witness_stop :
    (∃ s : State, s.ctrl.engine = .running ∧ (∀ h, (s.record h).state = .idle) ∧ s.order.stage = .none ∧
        s.walker.look = none) ∧
      (∃ s : State, s.ctrl.engine = .running ∧ ¬ ∀ h, (s.record h).state = .idle) ∧
      (∃ (s : State) (k : Look), s.ctrl.engine = .running ∧ s.walker.look = some k ∧ k.placed = true) ∧
      (∃ (s : State) (k : Look), s.ctrl.engine = .running ∧ s.walker.look = some k ∧ k.placed = false ∧
        s.slot .sheetWalker = none) :=
  ⟨⟨ctrlIs { engine := .running }, rfl, by decide, rfl, rfl⟩,
    ⟨{ recordIs { state := .acquiring } with ctrl := { engine := .running } }, rfl, by decide⟩,
    ⟨{ lookIs { lookAt 0 .takenWrite with placed := true } with ctrl := { engine := .running } }, _, rfl, rfl, rfl⟩,
    ⟨{ lookIs (lookAt 0 .headerRead) with ctrl := { engine := .running } }, _, rfl, rfl, rfl, rfl⟩⟩

/-- EventLatchRules: an event arrives with its enable set, at the lowest and the highest bit, and with it clear. -/
theorem test_witness_events :
    (∃ s : State, .sheet ∈ s.ctrl.raised ∧ s.ctrl.eventEnable.getLsbD (eventBit .sheet) = true ∧
        .engine ∈ s.ctrl.raised ∧ s.ctrl.eventEnable.getLsbD (eventBit .engine) = true ∧
        (0x201 : Word).getLsbD (eventBit .engine) = true) ∧
      (∃ s : State, .engine ∈ s.ctrl.raised ∧ s.ctrl.eventEnable.getLsbD (eventBit .engine) = false) :=
  ⟨⟨ctrlIs { raised := [.sheet, .engine], eventEnable := 0x201 }, by decide⟩,
    ⟨ctrlIs { raised := [.engine] }, by decide⟩⟩

/-- AttentionLineFollows: each kind of source at its bounds, and the first that names no condition. -/
theorem test_witness_attention (x : BitVec 4) :
    (∃ s : State, s.ctrl.attention.live = true ∧ s.ctrl.attention.source = x) ∧
      (∃ s : State, s.ctrl.attention.live = false) ∧ 8 < (9 : BitVec 4).toNat :=
  ⟨⟨ctrlIs { attention := ⟨true, false, x⟩ }, rfl, rfl⟩, ⟨State.reset, rfl⟩, by decide⟩

theorem test_witness_status_timer :
    (∃ s : State, s.ctrl.statusTimer = some 0 ∧ 0 ≤ s.ctrl.elapsed.toNat ∧
        s.ctrl.statusAddress = some 0x1000 ∧ s.ctrl.refresh = none) ∧
      (∃ s : State, s.ctrl.statusTimer = some 0 ∧ 0 ≤ s.ctrl.elapsed.toNat ∧
        s.ctrl.statusAddress = some 0x1000 ∧ s.ctrl.refresh ≠ none) :=
  ⟨⟨ctrlIs { statusTimer := some 0, statusAddress := some 0x1000 }, rfl, by decide, rfl, rfl⟩,
    ⟨ctrlIs { statusTimer := some 0, statusAddress := some 0x1000, refresh := some .odd }, rfl, by decide, rfl,
      by decide⟩⟩

/-- AccessesPresented: the walker in each stage, and the Order Executor in each stage with either part of a load. -/
theorem test_witness_presentations (g : LookStage) (st : OrderStage) (o : OrderStatus) (fixed : List Word) :
    let s := (lookIs (lookAt 0 g)).updLane 0 fun n => { n with anchor := some 0x1000 }
    let u : State := { orderIs { sheet := some 0x1000, stage := st, status := some o } with
      cal := { State.reset.cal with load := some ⟨0, 0x2000, fixed⟩ } }
    (s.slot .sheetWalker = none ∧ s.walker.look = some (lookAt 0 g) ∧ (s.lane 0).anchor = some 0x1000) ∧
      (u.slot .orderExecutor = none ∧ u.order.sheet = some 0x1000 ∧ u.order.stage = st ∧
        u.order.status = some o ∧ u.cal.load = some ⟨0, 0x2000, fixed⟩) :=
  ⟨⟨rfl, rfl, rfl⟩, rfl, rfl, rfl, rfl, rfl⟩

/-- AccessesPresented: the Tide Unit in either phase of a lookup and in a scan, and the Control Port in each part of a
refresh and with the directory read. -/
theorem test_witness_tide_and_control_presentations (p : LookupPhase) (r : Refresh) :
    let k : Lookup := ⟨0, ⟨0, 2, 0, 0⟩, 0, 0, 1, p⟩
    let s := State.reset.setLookup (some k)
    let u : State := { State.reset with tide := { State.reset.tide with pendingTable := some ⟨0, 1, 0, 0, 0⟩ } }
    let v := ctrlIs { statusAddress := some 0x1000, refresh := some r }
    let w := ctrlIs { engine := .starting, starting := some .directory }
    (s.slot .tideUnit = none ∧ s.tide.lookup = some k) ∧
      (u.slot .tideUnit = none ∧ u.tide.lookup = none ∧ u.tide.pendingTable = some ⟨0, 1, 0, 0, 0⟩) ∧
      (v.slot .controlPort = none ∧ v.ctrl.starting = none ∧ v.ctrl.statusAddress = some 0x1000 ∧
        v.ctrl.refresh = some r) ∧
      (w.slot .controlPort = none ∧ w.ctrl.starting = some .directory ∧ w.port.grant = none) :=
  ⟨⟨rfl, rfl⟩, ⟨rfl, rfl, rfl⟩, ⟨rfl, rfl, rfl, rfl⟩, rfl, rfl, rfl⟩

/-- AccessesPresented: each entry of the write queue, each write of a finalization, and a slot that is full. -/
theorem test_witness_sheet_presentations (e : QueueEntry) (a : DriftAnswer) (o : OccOutcome) (w : FinalWrite)
    (r : Requester) (x : Transfer) :
    let s := (recordIs { state := .writing, outcome := some o, answer := a }).enqueue e
    let u : State := { State.reset with drift := { State.reset.drift with
      finalizing := some w, batches := [⟨.noLoop, [entry .writing]⟩] } }
    (s.slot .occupationController = none ∧ s.occ.queue = [e] ∧ (s.record 0).outcome = some o ∧
        (s.record 0).answer = a) ∧
      (u.slot .driftUnit = none ∧ u.drift.finalizing = some w ∧
        u.drift.batches = [⟨.noLoop, [entry .writing]⟩] ∧
        (entry .writing).landing = some ⟨0x1000, false, false⟩) ∧
      (State.reset.setSlot r (some x)).slot r ≠ none := by
  exact ⟨⟨rfl, rfl, rfl, rfl⟩, ⟨rfl, rfl, rfl, rfl⟩, by cases r <;> exact fun e => nomatch e⟩

/-- GrantServesRoundOrder: the requester after the pointer, in each window class; the grant passes, or does not. -/
theorem test_witness_grants (w : WindowClass) :
    let x : Transfer := ⟨⟨.read, w, 0x1000, 4, []⟩, 0, []⟩
    let g : Grant := ⟨.sheetWalker, .read, 0x1000, 4, [], 0, false⟩
    let s : State := { State.reset.setSlot .sheetWalker (some x) with port := {
      (State.reset.setSlot .sheetWalker (some x)).port with
        sheetWindow := some ⟨0x1000, 0x1010⟩, tableWindow := some ⟨0x1000, 0x1010⟩ } }
    let u : State := State.reset.setSlot .sheetWalker (some x)
    s.port.grant = none ∧ s.slot .sheetWalker = some x ∧
      Requester.sheetWalker.number = s.port.pointer + 1 + 0 ∧ s.grantPasses w g = true ∧
      (w ≠ .none → u.grantPasses w g = false) ∧ (∃ t, exec .grant s = .next t ∧ t.port.grant = some g) := by
  cases w <;> exact ⟨rfl, rfl, rfl, rfl, by decide, _, rfl, rfl⟩

/-- BusAnswersEndOrGoOn: words left, RETRY below and at the limit, and a discarded grant. -/
theorem test_witness_answers :
    let x : Transfer := ⟨⟨.write, .none, 0, 5, []⟩, 0, []⟩
    let s := (State.reset.setSlot .driftUnit (some x)).setGrant (some ⟨.driftUnit, .write, 0, 4, [], 2, false⟩)
    let u := State.reset.setGrant (some ⟨.driftUnit, .write, 0, 4, [], 3, false⟩)
    let v := State.reset.setGrant (some ⟨.driftUnit, .write, 0, 4, [], 0, true⟩)
    (s.slot .driftUnit = some x ∧ 0 + 4 < x.access.count ∧ 2 < s.port.retryLimit) ∧
      s.port.grant = some ⟨.driftUnit, .write, 0, 4, [], 2, false⟩ ∧
      (u.port.grant = some ⟨.driftUnit, .write, 0, 4, [], 3, false⟩ ∧ u.port.retryLimit ≤ 3) ∧
      (v.port.grant = some ⟨.driftUnit, .write, 0, 4, [], 0, true⟩ ∧ v.ctrl.starting ≠ some .directory) :=
  ⟨⟨rfl, by decide, by decide⟩, rfl, ⟨rfl, by decide⟩, rfl, by decide⟩

/-- BusAnswersEndOrGoOn: a discarded grant, with the directory read waiting for it, and with the slot full. -/
theorem test_witness_discarded_answers :
    let s : State := { ctrlIs { engine := .starting, starting := some .directory } with
      port := (State.reset.setGrant (some ⟨.controlPort, .write, 0, 4, [], 2, true⟩)).port }
    let u := s.setSlot .controlPort (some ⟨⟨.read, .none, 0, 18, []⟩, 0, []⟩)
    s.port.grant = some ⟨.controlPort, .write, 0, 4, [], 2, true⟩ ∧ s.ctrl.starting = some .directory ∧
      s.slot .controlPort = none ∧ u.ctrl.starting = some .directory ∧ u.slot .controlPort ≠ none := by decide

/-- OccupationWritesAnswered: each kind of issued write, answered and faulted. -/
theorem test_witness_occupation_writes (i : Issued) :
    ∃ (s : State) (g : Grant), completes .occupationController [0] [] s ∧ s.port.grant = some g ∧
      g.discard = false ∧ g.requester = .occupationController ∧ s.occ.issued = some i ∧
      (s.record 0).takeNo = 1 :=
  ⟨inFlight .occupationController .write 1 ((recordIs { takeNo := 1 }).setIssued (some i)), _,
    inFlight_completes .occupationController .write [0] _, rfl, rfl, rfl, rfl, rfl⟩

/-! ## Witnesses: sensor links -/

/-- A well-placed cell of a bit at the place 0, at 115 200 bit/s. -/
def cellOf (b : Bool) : TrackCell := ⟨some 0, if b then some 4340 else none⟩

/-- R119: a late boundary moves the cells after it, a lone missing one does not. -/
theorem test_tracker_realigns :
    let cells : List TrackCell := [⟨some 2000, some 6340⟩, ⟨some 12000, some 16341⟩, ⟨some 22000, some 26340⟩]
    cellsPresent .r115200 0 cells = true ∧ cellBits .r115200 0 cells = [true, true, true] ∧
      placeAfter .r115200 0 cells = 22000 * 115200 + 1000000000 ∧
      cellPresent .r115200 (2 * 1000000000) ⟨some 22000, none⟩ = false ∧
      nextPlace .r115200 5 ⟨none, some 4340⟩ = 1000000005 ∧ cellBit .r115200 5 ⟨none, some 4340⟩ = true ∧
      withinQuarter 250000000 0 = true ∧ withinQuarter 250000001 0 = false ∧
      withinQuarter 0 250000000 = true ∧ withinQuarter 0 250000001 = false := by decide

/-- A receiver that has all bits of some bytes but the last; `lastCell` brings that one. -/
def allButOne (a : Assembler) (header bytes : List Byte) (queue : List Frame) : LinkReceiver :=
  { tracker := .track, assembler := a, header := header, bits := (bytesAsBits bytes).dropLast, judge := .up,
    queue := queue }
def lastCell (bytes : List Byte) : TrackCell := cellOf ((bytesAsBits bytes).getLastD false)

/-- TrackerLocksAndLosesTiming: the sixteenth interval, a broken run, a lone missed cell, and the second one with the
judge UP at its last bad frame, UP before it, and DOWN. -/
theorem test_witness_tracker :
    (intervalWellFormed .r115200 ⟨5, 8686, []⟩ = true ∧ intervalWellFormed .r115200 ⟨5, 8686, [4345]⟩ = true ∧
        intervalWellFormed .r115200 ⟨0, 20000, []⟩ = false ∧
        intervalWellFormed .r115200 ⟨0, 8681, [2000]⟩ = false ∧
        ((linkIs { lockRun := 15 }).link 0).tracker = .search ∧
        ((linkIs { lockRun := 15 }).link 0).lockRun + [(⟨0, 8681, []⟩ : Interval)].length = 16) ∧
      (∃ l, ((linkIs { tracker := .track }).link 0).tracker = .track ∧
        cellPresent .r115200 0 ⟨none, none⟩ = false ∧ cellsPresent .r115200 0 [cellOf true] = true ∧
        cellPresent .r115200 (placeAfter .r115200 0 [cellOf true]) ⟨none, none⟩ = false ∧
        absorbBits ((linkIs { tracker := .track }).link 0) [true] = some l) ∧
      (∀ l ∈ [({ tracker := .track, missRun := 1, judge := .up, badRun := 2 } : LinkReceiver),
          { tracker := .track, missRun := 1, judge := .up }, { tracker := .track, missRun := 1 }],
        ((linkIs l).link 0).missRun = 1 ∧ absorbBits ((linkIs l).link 0) ((linkIs l).link 0).incoming ≠ none) := by
  exact ⟨by decide, ⟨_, rfl, by decide, by decide, by decide, rfl⟩, by decide⟩

/-- StartMarkEntersHeader: the last bit of the mark arrives. -/
theorem test_witness_start_mark :
    let l : LinkReceiver := { tracker := .track, hunt := Config.startMark.dropLast }
    l.tracker = .track ∧ l.assembler = .hunt ∧
      cellsPresent l.rate l.timing [cellOf false] = true ∧
      huntBits l.hunt (l.incoming ++ cellBits l.rate l.timing [cellOf false]) = ([], some []) := by decide

/-- HeaderIsChecked: a header that passes, and one for each check that fails first. -/
theorem test_witness_headers :
    ∀ hd ∈ [[0x53, 0, 5, 0x10, 0x97], [0x53, 0, 5, 0x10, 0x98], [0x54, 0, 5, 0x10, 0x96],
        [0x53, 1, 5, 0x10, 0x96], ([0x53, 0, 5, 0x11, 0x96] : List Byte)],
      let l := (linkIs (allButOne .header [] hd [])).link 0
      l.tracker = .track ∧ l.assembler = .header ∧ cellsPresent l.rate l.timing [lastCell hd] = true ∧
        (l.bits ++ (l.incoming ++ cellBits l.rate l.timing [lastCell hd])).length = 40 ∧
        bytesOfBits (l.bits ++ (l.incoming ++ cellBits l.rate l.timing [lastCell hd])) = hd := by decide +kernel

theorem test_header_checks :
    headerSum [0x53, 0, 5, 0x10, 0x97] = 0xFF ∧ headerSum [0x53, 0, 5, 0x10, 0x98] ≠ 0xFF ∧
      frameKind 0x53 = some .sample ∧ frameKind 0x54 = none ∧ headerSum [0x54, 0, 5, 0x10, 0x96] = 0xFF ∧
      headerSum [0x53, 1, 5, 0x10, 0x96] = 0xFF ∧ headerSum [0x53, 0, 5, 0x11, 0x96] = 0xFF ∧
      lengthAllowed .sample 16 = true ∧ lengthAllowed .sample 128 = true ∧ lengthAllowed .sample 17 = false ∧
      lengthAllowed .sample 144 = false ∧ lengthAllowed .ident 8 = true := by decide

/-- An IDENT frame of head 0 with a right and a wrong CRC. -/
def identHeader : List Byte := [0x49, 0, 5, 8, 0xA9]
def identBytes : List Byte :=
  let c := crc16 (identHeader ++ List.replicate 8 0)
  List.replicate 8 0 ++ [c.extractLsb' 0 8, c.extractLsb' 8 8]
def badBytes : List Byte := List.replicate 8 1 ++ identBytes.drop 8

/-- FrameEndQueuesGoodFrames: a good frame with room, a good frame at a full queue, and a bad one; the judge UP, and
DOWN before and at the good frame that brings it UP (`test_link_judge`). -/
theorem test_witness_frames :
    ∀ x ∈ [(identBytes, ([] : List Frame)), (identBytes, List.replicate 8 identFrame), (badBytes, [])],
      let l := (linkIs (allButOne .payload identHeader x.1 x.2)).link 0
      l.tracker = .track ∧ l.assembler = .payload ∧ l.judge = .up ∧
        cellsPresent l.rate l.timing [lastCell x.1] = true ∧
        (l.bits ++ (l.incoming ++ cellBits l.rate l.timing [lastCell x.1])).length =
          8 * ((l.header.getD 3 0).toNat + 2) ∧
        bytesOfBits (l.bits ++ (l.incoming ++ cellBits l.rate l.timing [lastCell x.1])) = x.1 ∧
        frameKind (l.header.getD 0 0) = some .ident ∧ l.queue.length = x.2.length := by decide +kernel

theorem test_link_judge :
    let l := allButOne .payload identHeader identBytes []
    let first := (linkIs { l with judge := .down, goodRun := 1 }).link 0
    let last := (linkIs { l with judge := .down, goodRun := 2 }).link 0
    (first.judge = .down ∧ first.goodRun + 1 < first.linkIn) ∧
      (last.judge = .down ∧ last.linkIn ≤ last.goodRun + 1) := by decide +kernel

theorem test_frame_crcs :
    crc16 (identHeader ++ identBytes.take 8) = identBytes.getD 9 0 ++ identBytes.getD 8 0 ∧
      crc16 (identHeader ++ badBytes.take 8) ≠ badBytes.getD 9 0 ++ badBytes.getD 8 0 := by decide +kernel

theorem test_witness_silence :
    let s := linkIs { judge := .up, silenceTimer := some 0 }
    (s.link 0).judge = .up ∧ (s.link 0).silenceTimer = some 0 ∧ 0 ≤ s.ctrl.elapsed.toNat := by decide

/-! ## Witnesses: intake and tide -/

/-- FrameChoiceServesRoundOrder: the head at the pointer, and the last one of the round. -/
theorem test_witness_frame_choice :
    let s := linkIs { queue := [sampleFrame] }
    let u := State.reset.updLink 3 fun l => { l with queue := [identFrame] }
    (s.corr.evaluator = none ∧ (s.link 0).queue = [sampleFrame] ∧ (0 : Head) = s.corr.pointer + 0 ∧
        samplesOf sampleFrame.payload ≠ []) ∧
      (u.corr.evaluator = none ∧ (u.link 3).queue = [identFrame] ∧ (3 : Head) = u.corr.pointer + 3 ∧
        ∀ i : Head, i < 3 → (u.link (u.corr.pointer + i)).queue = []) := by decide

/-- JudgingEventScreensAndJudges: in the OFF part, flagged, outside the gates, and judged, with a context and without. -/
theorem test_witness_judging :
    let c := context {}
    let s := underEvaluation {} {} .between
    let x : HeadState := { on := 2, off := 1, phase := 2 }
    s.corr.evaluator = some (evaluator {} .between) ∧ (x.off ≠ 0 ∧ x.on ≤ x.phase) ∧
      ((s.headState 0).off = 0 ∧ { goodSample with flags := 1 }.flagged = true) ∧
      (goodSample.flagged = false ∧ gatesPass c.cal (s.headState 0) goodSample = true) ∧
      gatesPass c.cal (s.headState 0) { goodSample with counts := 2001 } = false ∧
      (s.setEvaluator (some { evaluator {} .between with context := none })).corr.evaluator =
        some { evaluator {} .between with context := none } := by decide

/-- JudgingEventScreensAndJudges: each of the three gates at its bounds and past them. -/
theorem test_witness_gates :
    let c : CalContents := { cntMin := 10, cntMax := 2000, tMin := -5, tMax := 100, tiltMax := 100 }
    let x : HeadState := { levelX := 7, levelY := -7 }
    gatesPass c x ⟨10, 107, -107, -5, 0, 0⟩ = true ∧ gatesPass c x ⟨2000, -93, 93, 100, 0, 0⟩ = true ∧
      gatesPass c x ⟨9, 7, -7, 0, 0, 0⟩ = false ∧ gatesPass c x ⟨2001, 7, -7, 0, 0, 0⟩ = false ∧
      gatesPass c x ⟨10, 108, -7, 0, 0, 0⟩ = false ∧ gatesPass c x ⟨10, 7, 94, 0, 0, 0⟩ = false ∧
      gatesPass c x ⟨10, 7, -7, -6, 0, 0⟩ = false ∧ gatesPass c x ⟨10, 7, -7, 101, 0, 0⟩ = false := by decide

/-- SettleJudgeTable: the tolerances at their bounds and past them, and the temperature step without a bound, without a
previous temperature, at its bound and past it. -/
theorem test_witness_judge_tests :
    let x : HeadState := { levelX := 10, tempStep := 50, prevTemp := some 1000 }
    isSteady x ⟨0, 30, -20, 1050, 0, 0⟩ = true ∧ isSteady x ⟨0, 31, 0, 1000, 0, 0⟩ = false ∧
      isLevel x ⟨0, 50, -40, 950, 0, 0⟩ = true ∧ isLevel x ⟨0, 50, -41, 950, 0, 0⟩ = false ∧
      isLevel x ⟨0, 10, 0, 1051, 0, 0⟩ = false ∧ isLevel { x with tempStep := 0 } ⟨0, 10, 0, 1051, 0, 0⟩ = true ∧
      isLevel { x with prevTemp := none } ⟨0, 10, 0, 1051, 0, 0⟩ = true := by decide

/-- SettleJudgeTable, row by row: at a run's last sample, before it, and broken. -/
theorem test_witness_judge_rows :
    let far : Sample := { goodSample with tiltX := 41 }
    let x : HeadState := { inRun := 29 }
    let y : HeadState := { judge := .settled, outRun := 4 }
    (isSteady x goodSample = true ∧ x.inRun + 1 = x.runIn ∧ isSteady x far = false) ∧
      ((0 : Nat) + 1 ≠ x.runIn) ∧ (isLevel y goodSample = true ∧ isLevel y far = false ∧ y.outRun + 1 = y.runOut) ∧
      ((0 : Nat) + 1 ≠ y.runOut ∧ x.tolIn ≤ x.tolOut) := by decide

/-- DeliveryFollowsTheTable: the record's three states, each class, and both settings of tide. -/
theorem test_witness_delivery (st : OccState) (cls : SampleClass) (o : Options) :
    let s := underEvaluation { state := st } o (.judged goodSample 0 cls false)
    s.corr.evaluator = some (evaluator o (.judged goodSample 0 cls false)) ∧
      (evaluator o (.judged goodSample 0 cls false)).context = some (context o) ∧
      (s.record 0).state = st ∧ (s.record 0).takeNo = (context o).takeNo ∧
      (s.headState 0).judge = .unsettled ∧
      ((s.updHead 0 fun x => { x with judge := .settled }).headState 0).judge = .settled :=
  ⟨rfl, rfl, rfl, rfl, rfl, rfl⟩

/-- DeliveryFollowsTheTable: a transition that the sample caused still waits, and a record that holds no take, or
another. -/
theorem test_witness_delivery_held (r : OccRecord) :
    let s := (underEvaluation r {} (.judged goodSample 0 .flagged true)).updInbox 0
      fun b => { b with judgeMsgs := [.unsettled] }
    s.corr.evaluator = some (evaluator {} (.judged goodSample 0 .flagged true)) ∧ (s.inbox 0).judgeMsgs ≠ [] ∧
      s.record 0 = r ∧ (recordIs r).inbox 0 = {} := ⟨rfl, List.cons_ne_nil _ _, rfl, rfl⟩

/-- RoundingIsToNearestTiesAway: a tie, an ascending curve with a temperature in its last interval, at its last point
and outside, and a time at either end of a segment. -/
theorem test_witness_rounding :
    (∃ (n : Int) (q : Nat), 0 < q ∧ 2 * (roundDiv n q * q - n).natAbs = q) ∧
      (examplePoints = [(-20000, 3200), (0, 0)] ++ (15000, -2750) :: (40000, -9100) :: [] ∧
        (examplePoints.map Prod.fst).Pairwise (· < ·) ∧ (15000 : Int) ≤ 39999 ∧ (39999 : Int) < 40000) ∧
      (segment4.start ≤ 36000000 ∧ 39599999 < segment4.start + segment4.span) ∧
      0 < ({ accepted := 1 } : Accumulation).accepted :=
  ⟨⟨-1, 2, by decide, by decide⟩, by decide, by decide, by decide⟩

/-- TideLookupDecides: no table, past its end, a cached segment, and a search of one and of many segments. -/
theorem test_witness_tide_lookup :
    let s := underEvaluation {} { tide := true } (.awaitingTide goodSample 36900000 candidate)
    let tab : TideTable := ⟨0, 24, 21600000, 108000000⟩
    (s.corr.evaluator = some (evaluator { tide := true } (.awaitingTide goodSample 36900000 candidate)) ∧
        s.tide.lookup = none ∧ s.tide.current = none ∧ s.tide.pendingTable = none) ∧
      (tab.firstStart ≤ 21600000 ∧ 107999999 < tab.endTime ∧ tab.endTime ≤ 108000000) ∧
      (segment4.holds 36000000 = true ∧ segment4.holds 39599999 = true ∧ segment4.holds 39600000 = false) ∧
      (s.setCache [⟨4, segment4⟩]).tide.cache.find? (fun y => y.segment.holds 36900000) = some ⟨4, segment4⟩ := by
  decide

/-- LinkLossClearsTheJudge, with the judge SETTLED and UNSETTLED. -/
theorem test_witness_link_loss (j : SettleJudge) :
    let s := (State.reset.updDownMsgs 0 (· + 1)).updHead 0 fun x => { x with judge := j }
    s.corr.downMsgs[(0 : Head)] ≠ 0 ∧ s.corr.evaluator = none ∧ (s.headState 0).judge = j := by
  cases j <;> decide

/-! ## Witnesses: occupations -/

def withIdentity (r : OccRecord) (m : IdentityMsg) : State :=
  (recordIs r).updInbox 0 fun b => { b with identityMsgs := [m] }

/-- IdentityReportTaken: equal serials with each judge, another serial, a change, and a report that has no effect. -/
theorem test_witness_identity (st : OccState) (m : IdentityMsg) :
    let s := withIdentity { state := st } m
    (s.inbox 0).identityMsgs = [m] ∧ (s.record 0).state = st ∧ (s.headState 0).judge = .unsettled ∧
      ((s.updHead 0 fun x => { x with judge := .settled }).headState 0).judge = .settled ∧
      (s.calSet (s.record 0).calSet).contents.serial = 0 := ⟨rfl, rfl, rfl, rfl, rfl⟩

/-- JudgeTransitionsAtTheRecord: both transitions in every state; intr below, and at, max_intr. -/
theorem test_witness_transitions (st : OccState) (j : SettleJudge) :
    let s := (recordIs { state := st, maxIntr := 1 }).updInbox 0 fun b => { b with judgeMsgs := [j] }
    let u := (recordIs { state := st, maxIntr := 1, intr := 1 }).updInbox 0 fun b => { b with judgeMsgs := [j] }
    (s.inbox 0).judgeMsgs = [j] ∧ (s.record 0).state = st ∧ (s.record 0).intr + 1 ≤ (s.record 0).maxIntr ∧
      (u.record 0).maxIntr < (u.record 0).intr + 1 ∧ (s.headState 0).judge = .unsettled :=
  ⟨rfl, rfl, Nat.le_refl 1, Nat.lt_succ_self 1, rfl⟩

/-- DispositionIsCountedAndTrailed: every disposition, with room, at a full queue, without a trail, and with no take
found. -/
theorem test_witness_disposition (d : Disposition) :
    let s := fun (n : Nat) (r : OccRecord) => { underEvaluation r {} (.delivering goodSample 0 d) with
      occ := { (recordIs r).occ with queue := List.replicate n (.trail 1 0 0 ⟨0, goodSample, .settling, 0⟩) } }
    (∀ n r, (s n r).corr.evaluator = some (evaluator {} (.delivering goodSample 0 d))) ∧
      ((s 15 { state := .settling, trailCap := 1 }).record 0).trailNext < 1 ∧
      (s 15 { state := .settling, trailCap := 1 }).queuedTrails < 16 ∧
      16 ≤ (s 16 { state := .settling, trailCap := 1 }).queuedTrails ∧
      ((s 0 { state := .settling }).record 0).trailCap ≤ ((s 0 { state := .settling }).record 0).trailNext ∧
      ((s 0 { state := .idle }).record 0).state = .idle ∧
      ((s 0 { state := .settling, takeNo := 1 }).record 0).takeNo ≠ (context {}).takeNo :=
  ⟨fun _ _ => rfl, Nat.zero_lt_one, show 15 < 16 by decide, Nat.le_refl 16, Nat.le_refl 0, rfl,
    by cases d <;> decide⟩

/-- CreditAccumulates: the first credit, a later one, the one that completes, and one that is dropped. -/
theorem test_witness_credit (a : Accumulation) (n : Nat) (st : OccState) :
    let s := underEvaluation { state := st, target := n, acc := a } {} (.crediting goodSample 0 candidate)
    s.corr.evaluator = some (evaluator {} (.crediting goodSample 0 candidate)) ∧ (s.record 0).state = st ∧
      (s.record 0).takeNo = (context {}).takeNo ∧ (s.record 0).trailCap ≤ (s.record 0).trailNext ∧
      (s.record 0).acc = a ∧ (s.record 0).target = n := ⟨rfl, rfl, rfl, Nat.le_refl 0, rfl, rfl⟩

/-- CreditAccumulates: one that is trailed, with room, and one held back. -/
theorem test_witness_credit_trailed :
    let s := fun n : Nat => { underEvaluation { state := .acquiring, trailCap := 1 } {} (.crediting goodSample 0 candidate) with
      occ := { (recordIs { state := .acquiring, trailCap := 1 }).occ with
        queue := List.replicate n (.trail 1 0 0 ⟨0, goodSample, .settling, 0⟩) } }
    (s 15).queuedTrails < 16 ∧ 16 ≤ (s 16).queuedTrails ∧
      (∀ n, ((s n).record 0).state = .acquiring ∧ ((s n).record 0).takeNo = (context {}).takeNo ∧
        ((s n).record 0).trailFault = false ∧ ((s n).record 0).trailNext < ((s n).record 0).trailCap) :=
  ⟨by decide, by decide, fun _ => ⟨rfl, rfl, rfl, Nat.zero_lt_one⟩⟩

/-- TimerExpiriesEndOccupations: the three timers, at the moment of their expiry. -/
theorem test_witness_timers (st : OccState) :
    let s := recordIs { state := st, settleTimer := some 0, acquireTimer := some 0, graceTimer := some 0 }
    (s.record 0).settleTimer = some 0 ∧ (s.record 0).acquireTimer = some 0 ∧ (s.record 0).graceTimer = some 0 ∧
      0 ≤ s.ctrl.elapsed.toNat ∧ (s.record 0).state = st := ⟨rfl, rfl, rfl, Nat.zero_le _, rfl⟩

/-- LinkTransitionsAtTheRecord: DOWN with grace 0 and above, UP, in every state. -/
theorem test_witness_link_transitions (st : OccState) (j : LinkJudge) (grace : Nat) :
    let s := (recordIs { state := st, linkGrace := grace }).updInbox 0 fun b => { b with linkMsgs := [j] }
    (s.inbox 0).linkMsgs = [j] ∧ (s.record 0).state = st ∧ (s.record 0).linkGrace = grace := ⟨rfl, rfl, rfl⟩

/-! ## Witnesses: loops and drift -/

/-- The joins: every role, outcome and failure mark; a free loop, a stale generation, and a loop that is not free. -/
theorem test_witness_joins (role : Role) (l : Option LoopId) (o : OccOutcome) (failed : Bool) :
    let s := recordIs (joining role l o failed)
    (s.record 0).state = .writing ∧ (s.record 0).step = some .join ∧ s.reportAt 0 = none ∧
      (s.record 0).role = role ∧ (s.record 0).loopId = l ∧ (s.record 0).outcome = some o ∧
      (s.record 0).joinFailed = failed := ⟨rfl, rfl, rfl, rfl, rfl, rfl, rfl⟩

theorem test_witness_join_loops :
    let full := loopIs { state := .opened, pending := List.replicate 64 (entry .held) }
    let open63 := loopIs { state := .opened, pending := List.replicate 63 (entry .held) }
    ((State.reset.loopAt 0).state = .free ∧ (State.reset.loopAt 0).generation = 0) ∧
      ((loopIs { state := .opened, generation := 1 }).loopAt 0).generation ≠ 0 ∧
      (64 ≤ full.poolUsed ∧ (full.loopAt 0).state ≠ .free) ∧ open63.poolUsed < 64 ∧
      0 + open63.drift.spanLimit * 60000 ≤ open63.ctrl.elapsed.toNat ∧
      open63.ctrl.elapsed.toNat < 0 + 1 * 60000 := by decide

theorem test_witness_reports (p : Report) : ((State.reset.setReport 0 (some p)).reportAt 0) = some p := rfl

/-- ExpiryAndAbortFreeTheLoop: an open loop at its expiry, and ABORT_LOOP of an open and of a free one. -/
theorem test_witness_expiry_and_abort :
    let s := loopIs { state := .opened, spanTimer := some 0 }
    let u : State := { s with order := { stage := .acting .presented, code := 7, arg0 := 0 } }
    ((s.loopAt 0).state = .opened ∧ (s.loopAt 0).spanTimer = some 0 ∧ 0 ≤ s.ctrl.elapsed.toNat) ∧
      (u.order.stage = .acting .presented ∧ u.order.code = 7 ∧ u.order.arg0 = BitVec.ofNat 64 0) ∧
      (u.loopAt 0).state = .opened ∧ (u.loopAt 1).state ≠ .opened := by decide

theorem test_witness_finalization (p : EntryPhase) :
    let s := batchesAre [⟨.noLoop, [{ entry .held with phase := p }]⟩]
    s.drift.finalizing = none ∧ s.drift.batches = [⟨.noLoop, [{ entry .held with phase := p }]⟩] := ⟨rfl, rfl⟩

/-! ## Witnesses: sheets and lanes -/

/-- PollsAndLooksBegin: the timer due, a HELD lane and another, and the first and the last lane of the search. -/
theorem test_witness_polls :
    let s : State := { State.reset with walker := { State.reset.walker with pollTimer := some 0 } }
    let u := State.reset.updLane 4 fun n => { n with flag := true, state := .held, anchor := some 0x1000 }
    (s.walker.pollTimer = some 0 ∧ 0 ≤ s.ctrl.elapsed.toNat) ∧
      (u.walker.look = none ∧ (4 : Lane) = u.walker.lastServed + 1 + 4 ∧ (u.lane 4).flag = true ∧
        (∀ i : Lane, i < 4 → (u.lane (u.walker.lastServed + 1 + i)).flag = false)) ∧
      ((u.lane 4).state = .held ∧ (u.lane 0).state ≠ .held ∧ (u.lane 0).anchor = none) := by decide

/-- A request part that passes checks 3 to 8 on lane 0, with some of its words changed. -/
def requestWords (w0 w2 w4 : Word) : List Word := [w0, 0, w2, 0x00010001, w4, 0, 0, 0, 0]

/-- CalibrationCheckAndOrderTake: a VALID set, at the last number, one that is not, and an order sheet. -/
theorem test_witness_calibration_check :
    let q := parseRequest (requestWords 0x07FF0100 0x00010001 0)
    let k : Look := { lookAt 0 .calCheck with request := some q }
    let s := (lookIs k).updCalSet 7 fun c => { c with state := .valid }
    (s.walker.look = some k ∧ k.stage = .calCheck ∧ k.request = some q ∧ q.set = BitVec.ofNat 8 7 ∧
        k.claim = none ∧ (s.calSet 7).state = .valid) ∧ ((lookIs k).calSet 7).state ≠ .valid ∧
      (lookIs (lookAt 4 .orderTake)).walker.look = some (lookAt 4 .orderTake) := by decide

/-- TakeStartsTheOccupation: each role, with a loop in each state and with none; each identity and settle judge; the link
UP and DOWN, with a grace and without. -/
theorem test_witness_take (role : Byte) (r : Role) (h : roleOf role = some r) (loop : Byte) (id : HeadState) (x : Loop)
    (j : LinkJudge) (grace : Nat) :
    let q : StationRequest := { parseRequest [] with role := role, loop := loop, linkGrace := grace }
    let k : Look := { lookAt 0 .take with request := some q, claim := some 0 }
    let s := (((lookIs k).updHead 0 fun _ => id).updLink 0 fun l => { l with judge := j }).updLoop 0 fun _ => x
    s.walker.look = some k ∧ k.stage = .take ∧ k.request = some q ∧ k.claim = some 0 ∧
      roleOf q.role = some r ∧ k.lane = (0 : Head).castSucc ∧ k.next = 0 ∧ k.stopped = false ∧
      s.headState 0 = id ∧ (s.link 0).judge = j ∧ q.loop = loop ∧ s.loopAt 0 = x ∧ q.linkGrace = grace :=
  ⟨rfl, rfl, rfl, rfl, h, rfl, rfl, rfl, rfl, rfl, rfl, rfl, rfl⟩

theorem test_take_loops :
    loopOfByte 0 = some 0 ∧ loopOfByte 3 = some 3 ∧ loopOfByte 4 = none ∧ loopOfByte 0xFF = none ∧
      roleOf 1 = some .station ∧ roleOf 4 = some .baseTurn := by decide

/-! ## Witnesses: orders -/

/-- OrdersDecidedAtTheirOwners, SetHeadLoadsSettings and the two parts of CANCEL: each order presented, with the owners
free and busy. -/
theorem test_witness_orders (code : Word) (a0 a1 : Dword) :
    let s := orderIs { stage := .acting .presented, code := code, arg0 := a0, arg1 := a1 }
    s.order.stage = .acting .presented ∧ s.order.code = code ∧ s.order.arg0 = a0 ∧ s.order.arg1 = a1 ∧
      s.corr.evaluator = none ∧ (∀ h, (s.record h).state = .idle) ∧ (∀ l, (s.loopAt l).state = .free) ∧
      (∀ c, (s.calSet c).use = 0) ∧ ((s.updCalSet 7 fun c => { c with use := 1 }).calSet 7).use ≠ 0 ∧
      ((s.updRecord 3 fun r => { r with state := .settling }).record 3).state ≠ .idle ∧
      ((s.updRecord 3 fun r => { r with state := .writing }).record 3).state = .writing :=
  ⟨rfl, rfl, rfl, rfl, rfl, show ∀ h, (State.reset.record h).state = .idle by decide,
    show ∀ l, (State.reset.loopAt l).state = .free by decide, show ∀ c, (State.reset.calSet c).use = 0 by decide,
    Nat.one_ne_zero, fun e => OccState.noConfusion e, rfl⟩

/-- CancelAtTheOccupationController: the holder, alone, in each state, and a sheet that no record holds. -/
theorem test_witness_cancel (st : OccState) :
    let s : State := { recordIs { state := st, sheet := 0x1000 } with
      order := { stage := .acting .presented, code := 6, arg0 := 0x1000 } }
    (s.record 0).state = st ∧ (s.record 0).sheet.toNat = s.order.arg0.toNat ∧
      (∀ i, i ≠ 0 → (s.record i).state = .idle) ∧ (State.reset.record 0).state = .idle :=
  ⟨rfl, rfl, by cases st <;> decide, rfl⟩

/-- SetHeadLoadsSettings: an equal rate, and another with the link UP; the judge SETTLED. -/
theorem test_witness_rates :
    let s := (State.reset.updLink 3 fun l => { l with judge := .up }).updHead 3 fun x => { x with judge := .settled }
    rateOf 2 = (State.reset.link 3).rate ∧ rateOf 3 ≠ (s.link 3).rate ∧ (s.link 3).judge = .up ∧
      (s.headState 3).judge = .settled := by decide

/-- CancelAtTheDriftUnit: a HELD entry on a list, an entry in a batch, and none. -/
theorem test_witness_withdrawal :
    let o : OrderExecutor := { stage := .acting .withdrawal, code := 6, arg0 := 0x1000 }
    let s : State := { loopIs { state := .opened, pending := [entry .held] } with order := o }
    let u : State := { batchesAre [⟨.noLoop, [entry .held]⟩] with order := o }
    let has := fun e : PoolEntry => decide (∃ a ∈ e.landing, a.sheet.toNat = 0x1000)
    (s.order.stage = .acting .withdrawal ∧ (∀ h, s.reportAt h = none) ∧ entry .held ∈ (s.loopAt 0).pending ∧
        (entry .held).phase = .held ∧ (entry .held).landing = some ⟨0x1000, false, false⟩ ∧
        has (entry .held) = true) ∧
      (u.order.stage = .acting .withdrawal ∧ (∀ l, (u.loopAt l).pending = []) ∧
        ∃ b ∈ u.drift.batches, ∃ e ∈ b.entries, has e = true) ∧ (orderIs o).drift.batches = [] := by decide

/-- HeadResetInThreeParts: before the parts, and each part last, with the link UP and DOWN, the record in each state. -/
theorem test_witness_head_reset (a b c : Bool) (st : OccState) (j : LinkJudge) :
    let s : State := { (recordIs { state := st }).updLink 0 fun l => { l with judge := j } with
      order := { stage := .acting (.resetting a b c), code := 8, arg0 := 0 } }
    s.order.stage = .acting (.resetting a b c) ∧ s.order.arg0 = BitVec.ofNat 64 0 ∧ s.corr.evaluator = none ∧
      (s.record 0).state = st ∧ (s.link 0).judge = j := ⟨rfl, rfl, rfl, rfl, rfl⟩

/-- HeadResetInThreeParts: the judge SETTLED at its part, and the interruption that waits at the record's part. -/
theorem test_witness_head_reset_interrupts (a : Bool) :
    let s : State := { (recordIs { state := .acquiring }).updInbox 0 fun b => { b with judgeMsgs := [.unsettled] } with
      order := { stage := .acting (.resetting a true false), code := 8, arg0 := 0 } }
    ((State.reset.updHead 0 fun x => { x with judge := .settled }).headState 0).judge = .settled ∧
      s.order.stage = .acting (.resetting a true false) ∧ (s.record 0).state = .acquiring ∧
      .unsettled ∈ (s.inbox 0).judgeMsgs := ⟨rfl, rfl, rfl, List.mem_singleton_self _⟩

/-! ## Witnesses: answers -/

/-- A state in which requester `r` alone has an access, outside the sheet window, and one with a grant of it in flight
that has been retried three times; the command that ends each with a fault of kind `k`. -/
def atFault (r : Requester) (k : FaultKind) (s : State) : State :=
  let s := { s with port := { pointer := 5, retryLimit := 3, grantSize := 4 } }.setSlot r
    (some ⟨⟨.read, .sheet, 0, 4, []⟩, 0, []⟩)
  match k with
  | .window => s
  | .retryExhausted | .busError => s.setGrant (some ⟨r, .read, 0, 4, [], 3, false⟩)
def faultCommand : FaultKind → Instr
  | .window => .grant
  | .retryExhausted => .busAnswer .retry
  | .busError => .busAnswer .error

theorem atFault_faults (r : Requester) (k : FaultKind) (s : State) : faults r k (faultCommand k) (atFault r k s) := by
  cases k with
  | window =>
    have h : (atFault r .window State.reset).chosenRequester = some r.number := by cases r <;> decide
    exact ⟨rfl, rfl, h, _, by cases r <;> rfl, by cases r <;> rfl⟩
  | retryExhausted => exact ⟨rfl, _, rfl, rfl, rfl, Nat.le_refl 3⟩
  | busError => exact ⟨rfl, _, rfl, rfl, rfl⟩

/-- Every statement with `faults`: whatever the other blocks hold, each requester meets each kind of fault. -/
theorem test_witness_fault_of_each_kind (r : Requester) (k : FaultKind) (s : State) :
    faults r k (faultCommand k) (atFault r k s) ∧ unchangedBut [.port] s (atFault r k s) :=
  ⟨atFault_faults r k s, by cases k <;> exact frame_port s _⟩

/-- The state word of record 0 is answered, with the engine in `e`, lane 0 in `n` and record 1 in `st`. -/
def stateWordIs (e : EngineState) (n : LaneState) (st : OccState) : State :=
  inFlight .occupationController .write 1
    (((({ recordIs { state := .writing, step := some .state } with ctrl := { engine := e } } : State).updRecord 1
      fun r => { r with state := st }).updLane 0 fun l => { l with state := n }).setIssued (some (.stateWord 0)))

/-- OccupationWritesAnswered and the joins: in STOPPING the stop condition holds afterwards, or does not; in RUNNING the
lane is BUSY, or is not. -/
theorem test_witness_record_idle :
    (∃ t, exec (.busAnswer (.okay [0])) (stateWordIs .stopping .waiting .idle) = .next t ∧
        t.ctrl.engine = .stopped ∧ t.ctrl.raised = [.sheet, .engine]) ∧
      (∃ t, exec (.busAnswer (.okay [0])) (stateWordIs .stopping .waiting .settling) = .next t ∧
        t.ctrl.engine = .stopping ∧ t.ctrl.raised = [.sheet]) ∧
      (∃ t, exec (.busAnswer (.okay [0])) (stateWordIs .running .busy .idle) = .next t ∧
        (t.lane 0).flag = true) ∧
      (∃ t, exec (.busAnswer (.okay [0])) (stateWordIs .running .waiting .idle) = .next t ∧
        (t.lane 0).flag = false) :=
  ⟨⟨_, rfl, by decide⟩, ⟨_, rfl, by decide⟩, ⟨_, rfl, by decide⟩, ⟨_, rfl, by decide⟩⟩

/-- WalkerWritesAnswered and OrdersReadAndAnswered: in STOPPING the end of a look carried through, and of an order, each
the last thing the engine waits for. -/
theorem test_witness_stop_tests :
    let k : Look := { lookAt 0 .refusedWrite with placed := true, stopped := true }
    let s := inFlight .sheetWalker .write 1 { lookIs k with ctrl := { engine := .stopping } }
    let u := inFlight .orderExecutor .write 1
      { orderIs { stage := .answerState, status := some .done } with ctrl := { engine := .stopping } }
    (∃ t, exec (.busAnswer (.okay [0])) s = .next t ∧ t.ctrl.engine = .stopped ∧
        t.ctrl.raised = [.sheet, .engine]) ∧
      (∃ t, exec (.busAnswer (.okay [0])) u = .next t ∧ t.ctrl.engine = .stopped ∧
        t.ctrl.raised = [.order, .engine]) :=
  ⟨⟨_, rfl, by decide⟩, ⟨_, rfl, by decide⟩⟩

/-- CalibrationCheckAndOrderTake and TakeStartsTheOccupation: a look that goes on, to an aligned and to a misaligned
address, one with no next sheet, and one that a STOP met. -/
theorem test_witness_looks_go_on (g : LookStage) (a : Word) (b : Bool) :
    let s := lookIs { lookAt 0 g with next := a, stopped := b }
    (∃ k, s.walker.look = some k ∧ k.stage = g ∧ k.next = a ∧ k.stopped = b) ∧
      (0x2000 : Word).toNat % 8 = 0 ∧ (0x2000 : Word) ≠ 0 ∧ (0x2004 : Word).toNat % 8 ≠ 0 :=
  ⟨⟨_, rfl, rfl, rfl, rfl⟩, by decide⟩

/-- TideReadsAnswered and CalibrationLoadsAnswered: a fault of each kind on a scan of either owner and on a load. -/
theorem test_witness_faults (k : FaultKind) (o : ScanOwner) (fixed : List Word) :
    let s := atFault .tideUnit k { State.reset with
      tide := { State.reset.tide with
        slot := some .scan, pendingTable := some ⟨0, 1, 0, 0, 0⟩, scanOwner := some o } }
    let u := atFault .orderExecutor k { orderIs { stage := .acting .loading } with
      cal := { State.reset.cal with load := some ⟨0, 0x1000, fixed⟩ } }
    (faults .tideUnit k (faultCommand k) s ∧ s.tide.slot = some .scan ∧ s.tide.scanOwner = some o) ∧
      (faults .orderExecutor k (faultCommand k) u ∧ u.order.stage = .acting .loading ∧
        u.cal.load = some ⟨0, 0x1000, fixed⟩) := by
  cases k <;> exact ⟨⟨atFault_faults _ _ _, rfl, rfl⟩, atFault_faults _ _ _, rfl, rfl⟩

/-- A directory that passes its five checks; `d` replaces one of its words, and the check word is formed anew. -/
def directoryWords (i : Nat) (d : Word) : List Word :=
  let ws := ([0x8E3D5A17, 0x1000, 0x2000, 0x3000, 0x4000, 0x1000, 0, 0, 0, 0, 0x1000, 0x3000, 1, 10, 100,
    0x04000001, 0] : List Word).set i d
  ws ++ [-wordSum ws]

/-- DirectoryReadAnswered: one directory that passes and one for each check that fails first. -/
theorem test_witness_directories :
    directoryFault (directoryWords 16 0) = none ∧ directoryFault (directoryWords 0 0) = some .signature ∧
      directoryFault (directoryWords 16 0 ++ [1]) = some .check ∧
      directoryFault (directoryWords 10 0x1E48) = some .windows ∧ directoryFault (directoryWords 10 0x1E40) = none ∧
      directoryFault (directoryWords 9 0x2000) = some .roots ∧ directoryFault (directoryWords 9 0x1FF8) = none ∧
      directoryFault (directoryWords 13 9) = some .range ∧
      directoryFault (directoryWords 12 4097) = some .range ∧ directoryFault (directoryWords 12 0) = none := by
  decide +kernel

theorem test_witness_directory_read (ws : List Word) :
    let s := inFlight .controlPort .read ws.length (ctrlIs { engine := .starting, starting := some .directory })
    completes .controlPort ws ws s ∧ s.ctrl.starting = some .directory :=
  ⟨inFlight_completes .controlPort .read ws _, rfl⟩

/-- SheetsAreValidated and WalkerWritesAnswered: every stage, stopped or not, placed or not, on every lane. -/
theorem test_witness_walker_answers (ws : List Word) (k : Look) :
    let s := inFlight .sheetWalker .read ws.length (lookIs k)
    completes .sheetWalker ws ws s ∧ s.walker.look = some k ∧ s.port.grant.isSome = true :=
  ⟨inFlight_completes .sheetWalker .read ws _, rfl, rfl⟩

/-- SheetsAreValidated: the owners busy and free, and the fixed part inside the sheet window and outside it. -/
theorem test_witness_owners_and_windows :
    let w : State := { State.reset with port := { State.reset.port with sheetWindow := some ⟨0x1000, 0x1200⟩ } }
    (orderIs { stage := .reading }).order.stage ≠ .none ∧ ((recordIs { state := .writing }).record 0).state ≠ .idle ∧
      w.insideSheet 0x1000 0x200 = true ∧ w.insideSheet 0x1008 0x200 = false ∧ w.insideSheet 0x1200 0 = true := by
  decide

/-- SheetsAreValidated: the three answers of a root or next-pointer read. -/
theorem test_witness_candidates :
    wordAt [0] 0 = 0 ∧ (wordAt [0x1004] 0).toNat % 8 ≠ 0 ∧ wordAt [0x1008] 0 ≠ 0 ∧
      (wordAt [0x1008] 0).toNat % 8 = 0 := by decide

/-- The first of checks 3 to 8 that fails, each at a bound, in a window that ends with the first trail record. -/
theorem test_witness_requests :
    let s : State := { State.reset with port := { State.reset.port with sheetWindow := some ⟨0x1000, 0x1220⟩ } }
    let fault := fun w0 w2 w4 => s.stationFault 0 0x1000 (parseRequest (requestWords w0 w2 w4))
    fault 0x07FF0100 0x00010001 1 = none ∧ fault 0x07FF0101 0x00010001 1 = some .head ∧
      fault 0x07FF0500 0x00010001 1 = some .role ∧ fault 0x07FF0200 0x00010001 1 = some .loopId ∧
      fault 0x07040100 0x00010001 1 = some .loopId ∧ fault 0x08FF0100 0x00010001 1 = some .limits ∧
      fault 0x07FF0100 0x00020001 1 = some .limits ∧ fault 0x07FF0100 0x00010001 2 = some .window ∧
      fault 0x07000100 0x00010001 1 = some .clockUnset := by decide +kernel

/-- TideReadsAnswered: a lookup in either phase with no scan waiting, and a scan of one segment with either owner. -/
theorem test_witness_tide_answers (ws : List Word) (p : LookupPhase) (o : ScanOwner) :
    let e := evaluator { tide := true } (.awaitingTide goodSample 36900000 candidate)
    let k : Lookup := ⟨36900000, ⟨0, 2, 32400000, 39600000⟩, 0, 0, 1, p⟩
    let s := inFlight .tideUnit .read ws.length { State.reset.setEvaluator (some e) with
      tide := { State.reset.tide with slot := some .lookup, lookup := some k } }
    let u := inFlight .tideUnit .read ws.length { State.reset with
      tide := { State.reset.tide with slot := some .scan, pendingTable := some ⟨0, 1, 0, 0, 0⟩, scanOwner := some o } }
    let v := inFlight .tideUnit .read ws.length { State.reset with
      tide := { State.reset.tide with
        slot := some .lookup, lookup := some k, pendingTable := some ⟨0, 1, 1, 0, 0⟩, scanOwner := some .order } }
    (completes .tideUnit ws ws s ∧ s.tide.slot = some .lookup ∧ s.tide.lookup = some k ∧
        s.corr.evaluator = some e ∧ s.tide.pendingTable = none) ∧
      (completes .tideUnit ws ws u ∧ u.tide.slot = some .scan ∧ u.tide.pendingTable = some ⟨0, 1, 0, 0, 0⟩ ∧
        u.tide.lookup = none ∧ u.tide.scanOwner = some o) ∧
      (completes .tideUnit ws ws v ∧ v.tide.pendingTable = some ⟨0, 1, 1, 0, 0⟩ ∧
        v.tide.scanOwner = some .order) :=
  ⟨⟨inFlight_completes .tideUnit .read ws _, rfl, rfl, rfl, rfl⟩,
    ⟨inFlight_completes .tideUnit .read ws _, rfl, rfl, rfl, rfl⟩, inFlight_completes .tideUnit .read ws _, rfl, rfl⟩

/-- The three outcomes of a probe, and the first check of a scanned segment that fails, each at a bound. -/
theorem test_witness_segments :
    let words := fun (start span : Nat) => dwordWords (BitVec.ofNat 64 start) ++ [BitVec.ofNat 32 span]
    (parseSegment (words 36000000 3600000)).start = 36000000 ∧
      (parseSegment (words 36000000 3600000)).span = 3600000 ∧
      segmentFault ⟨0, 2, 1, 7, 0⟩ (parseSegment (words 8 60000)) = some .tableOrder ∧
      segmentFault ⟨0, 2, 1, 7, 0⟩ (parseSegment (words 7 60000)) = none ∧
      segmentFault ⟨0, 2, 0, 0, 0⟩ (parseSegment (words 7 59999)) = some .tableSpan ∧
      segmentFault ⟨0, 2, 0, 0, 0⟩ (parseSegment (words 7 86400000)) = none ∧
      segmentFault ⟨0, 2, 0, 0, 0⟩ (parseSegment (words 7 86400001)) = some .tableSpan ∧
      segmentFault ⟨0, 2, 0, 0, 0⟩ (parseSegment (words (2 ^ 64 - 60001) 60000)) = none ∧
      segmentFault ⟨0, 2, 0, 0, 0⟩ (parseSegment (words (2 ^ 64 - 60000) 60000)) = some .range := by decide +kernel

/-- OrdersReadAndAnswered and CalibrationLoadsAnswered: an order in every stage, with a load in either part. -/
theorem test_witness_order_answers (ws fixed : List Word) (g : OrderStage) :
    let s := inFlight .orderExecutor .read ws.length { orderIs { stage := g, sheet := some 0x1000 } with
      cal := { State.reset.cal with load := some ⟨0, 0x1000, fixed⟩ } }
    completes .orderExecutor ws ws s ∧ s.order.stage = g ∧ s.cal.load = some ⟨0, 0x1000, fixed⟩ ∧
      s.port.grant.isSome = true := ⟨inFlight_completes .orderExecutor .read ws _, rfl, rfl, rfl⟩

/-- The arguments of the orders, each at a bound and past it. -/
theorem test_witness_arguments :
    argumentsAllowed 1 (2 ^ 63 - 1) 0 0 0 = true ∧ argumentsAllowed 1 (2 ^ 63) 0 0 0 = false ∧
      argumentsAllowed 2 3 0x03E8000F0F03 0x03FF000007D00001 0x0F0FFF = true ∧
      argumentsAllowed 2 4 0x03E8000F0F03 0x03FF000007D00001 0x0F0FFF = false ∧
      argumentsAllowed 2 3 0x03E8000F0F04 0x03FF000007D00001 0x0F0FFF = false ∧
      argumentsAllowed 3 7 8 0 0 = true ∧ argumentsAllowed 3 8 8 0 0 = false ∧ argumentsAllowed 3 7 4 0 0 = false ∧
      argumentsAllowed 4 7 0 0 0 = true ∧ argumentsAllowed 5 8 4096 0 0 = true ∧
      argumentsAllowed 5 8 4097 0 0 = false ∧ argumentsAllowed 5 4 0 0 0 = true ∧
      argumentsAllowed 6 (2 ^ 32) 0 0 0 = false ∧ argumentsAllowed 7 4 0 0 0 = false ∧
      argumentsAllowed 8 3 0 0 0 = true := by decide +kernel

/-- A calibration record of two points, with one word of its fixed part replaced, and its second part. -/
def calWords (i : Nat) (d : Word) : List Word := ([1, 2, 0, 0, 0, 10000, 0, 0, 0, 0, 32767, 0] : List Word).set i d
def calRest (fixed : List Word) (t1 : Word) : List Word :=
  let ws := [0, 0, 0, 0, t1, 0, 0, 0, 0]
  ws ++ [-wordSum (fixed ++ ws)]

/-- CalibrationLoadsAnswered: each check of R94, and the point count at its bounds. -/
theorem test_witness_calibration_records :
    let fault := fun i d t => calFault (calWords i d) (calRest (calWords i d) t)
    fault 0 1 1 = none ∧ calFault (calWords 0 1) (calRest (calWords 0 2) 1) = some .calCheck ∧
      fault 5 10001 1 = some .range ∧ fault 10 0 1 = some .range ∧ fault 10 32768 1 = some .range ∧
      fault 0 1 0 = some .calOrder ∧ fault 6 1 1 = some .calOrder ∧ fault 8 1 1 = some .calOrder ∧
      calPointCount (calWords 1 1) = 1 ∧ calPointCount (calWords 1 17) = 17 := by decide +kernel

/-- FinalizationAndStatusWritesAnswered: either write of the last and of another entry; every part of a refresh. -/
theorem test_witness_final_writes (w : FinalWrite) (es : List PoolEntry) (r : Refresh) (p : Bool) :
    let s := inFlight .driftUnit .write 1 { State.reset with drift := { State.reset.drift with
      finalizing := some w, batches := [⟨.noLoop, entry .writing :: es⟩] } }
    let u := inFlight .controlPort .write 1 (ctrlIs { refresh := some r, refreshPending := p })
    (completes .driftUnit [0] [] s ∧ s.drift.finalizing = some w ∧
        s.drift.batches = [⟨.noLoop, entry .writing :: es⟩]) ∧
      (completes .controlPort [0] [] u ∧ u.ctrl.refresh = some r ∧ u.ctrl.starting ≠ some .directory) :=
  ⟨⟨inFlight_completes .driftUnit .write [0] _, rfl, rfl⟩, inFlight_completes .controlPort .write [0] _, rfl,
    fun e => nomatch e⟩

/-- FinalizationAndStatusWritesAnswered: the snapshot with a table and none, a last fault and none. -/
theorem test_witness_snapshots (x : TideTable) (f : FaultRecord) :
    let s : State := { State.reset with
      tide := { State.reset.tide with current := some x }, port := { State.reset.port with lastFault := some f } }
    s.tide.current = some x ∧ s.port.lastFault = some f ∧ State.reset.tide.current = none ∧
      State.reset.port.lastFault = none := ⟨rfl, rfl, rfl, rfl⟩

/-! ## Witnesses: invariants -/

/-- A state that is not reset, in which each invariant holds and a step is taken. -/
def busyState : State :=
  { (((linkIs { queue := List.replicate 8 identFrame }).updLoop 0 fun _ =>
        { state := .opened, spanTimer := some 5, pending := [entry .held] }).setCache [⟨4, segment4⟩]).updCalSet 0
      fun _ => ⟨.valid, 0, { goodCal with tiltMax := 1 }⟩ with
    ctrl := { engine := .running }, pending := [.notice 0] }

theorem test_witness_step : ∃ t, step busyState = .next t := ⟨_, rfl⟩
theorem test_witness_frames_bounded : framesBounded busyState := by unfold framesBounded; decide
theorem test_witness_engine_consistent : engineConsistent busyState := by
  refine ⟨by decide, by decide, by decide, by decide, by decide, fun k h => ?_, by decide⟩
  exact nomatch (show (none : Option Look) = some k from h)
theorem test_witness_loops_shaped : loopsShaped busyState := by unfold loopsShaped loopShape; decide
theorem test_witness_pool_bounded : poolBounded busyState := by unfold poolBounded; decide
theorem test_witness_sets_checked : setsChecked busyState := by
  refine ⟨by unfold contentsChecked; decide, fun l h => ?_⟩
  exact nomatch (show (none : Option CalLoad) = some l from h)
theorem test_witness_trails_bounded : trailsBounded busyState := by unfold trailsBounded; decide
theorem test_witness_cache_shaped : cacheShaped busyState := by unfold cacheShaped; decide

end Sys2Proof.Tests
end

-- ==== Proofs of the family "station occupations": messages to the records ====
section
/-! SUPPORT. Operations that present messages to the occupation records and change nothing else at the Occupation Controller:
the records, the write queue and the issued entry stay as they were. -/

namespace Sys2Proof.Machine

/-- At the Occupation Controller at most the inboxes differ. -/
def inboxesOnly (s t : State) : Prop := t.occ = { s.occ with inbox := t.occ.inbox }

theorem inboxesOnly_self (s : State) : inboxesOnly s s := rfl

theorem inboxesOnly_of_occ {s t : State} (h : t.occ = s.occ) : inboxesOnly s t := by
  unfold inboxesOnly
  rw [h]

theorem inboxesOnly.andThen {s t u : State} (h : inboxesOnly s t) (g : inboxesOnly t u) : inboxesOnly s u := by
  unfold inboxesOnly at *
  rw [g, h]

theorem inboxesOnly.record {s t : State} (h : inboxesOnly s t) (i : Head) : t.record i = s.record i := by
  unfold State.record
  rw [h]

theorem inboxesOnly.queue {s t : State} (h : inboxesOnly s t) : t.occ.queue = s.occ.queue := by rw [h]

section

variable (s : State)

theorem updInbox_inboxesOnly (h : Head) (f : RecordInbox → RecordInbox) : inboxesOnly s (s.updInbox h f) := rfl

theorem presentJudge_inboxesOnly (h : Head) (j : SettleJudge) : inboxesOnly s (s.presentJudge h j) := rfl

theorem judgeClear_inboxesOnly (h : Head) : inboxesOnly s (s.judgeClear h) := by
  unfold State.judgeClear
  split
  · exact presentJudge_inboxesOnly ((s.updHead h clearedJudge).raise .settle) h .unsettled
  · exact inboxesOnly_self s

theorem judge_inboxesOnly (h : Head) (x : Sample) : inboxesOnly s (s.judge h x) := by
  unfold State.judge
  dsimp only
  split
  · exact inboxesOnly_self s
  · exact presentJudge_inboxesOnly ((s.updHead h fun _ => judgeSample (s.headState h) x).raise .settle) h _

theorem judgeNext_inboxesOnly (e : Evaluator) (x : Sample) : inboxesOnly s (s.judgeNext e x) := by
  have delivered (t : State) (cls : SampleClass) (caused : Bool) (n : Nat) :
      inboxesOnly t (t.toDelivery e x n cls caused) :=
    inboxesOnly_of_occ ((toDelivery_frame t e x n cls caused).occ (by decide))
  unfold State.judgeNext
  dsimp only
  split
  · exact inboxesOnly_of_occ ((sampleDone_frame _ e).occ (by decide))
  · split
    · exact delivered (s.updHead e.head _) _ _ _
    · split
      · exact delivered (s.updHead e.head _) _ _ _
      · exact (judge_inboxesOnly (s.updHead e.head _) e.head x).andThen (delivered _ _ _ _)

theorem takeIdent_inboxesOnly (h : Head) (f : Frame) : inboxesOnly s (s.takeIdent h f) := rfl

theorem linkDown_inboxesOnly (h : Head) (b : Bool) : inboxesOnly s (s.linkDown h b) := by
  unfold State.linkDown
  dsimp only
  split <;> exact rfl

theorem linkUp_inboxesOnly (h : Head) : inboxesOnly s (s.linkUp h) := rfl

theorem badFrame_inboxesOnly (h : Head) : inboxesOnly s (s.badFrame h) := by
  unfold State.badFrame
  split
  · exact inboxesOnly_self s
  · split
    · exact linkDown_inboxesOnly s h true
    · exact inboxesOnly_self s

theorem frameError_inboxesOnly (h : Head) (f : Counters → Counters) : inboxesOnly s (s.frameError h f) :=
  badFrame_inboxesOnly (s.updLink h fun l => { huntingLink l with counters := f l.counters }) h

theorem judgeGoodFrame_inboxesOnly (h : Head) : inboxesOnly s (s.judgeGoodFrame h) := by
  unfold State.judgeGoodFrame
  split
  · split
    · exact linkUp_inboxesOnly s h
    · exact inboxesOnly_self s
  · exact inboxesOnly_self s

theorem goodFrame_inboxesOnly (h : Head) (k : FrameKind) (q : Byte) (p : List Byte) :
    inboxesOnly s (s.goodFrame h k q p) := by
  unfold State.goodFrame
  dsimp only
  have judged := judgeGoodFrame_inboxesOnly
    (s.updLink h fun l => { l with counters := { l.counters with good := l.counters.good + 1 } }) h
  split
  · exact judged.andThen (inboxesOnly_of_occ ((offerFrame_frame _ h _).occ (by decide)))
  · exact judged

theorem checkHeader_inboxesOnly (h : Head) (bs : List Byte) : inboxesOnly s (s.checkHeader h bs) := by
  unfold State.checkHeader
  split
  · exact frameError_inboxesOnly s h _
  · exact inboxesOnly_self s

theorem checkFrame_inboxesOnly (h : Head) (bs : List Byte) : inboxesOnly s (s.checkFrame h bs) := by
  unfold State.checkFrame
  dsimp only
  split
  · split
    · exact goodFrame_inboxesOnly (s.updLink h huntingLink) h _ _ _
    · exact frameError_inboxesOnly s h _
  · exact frameError_inboxesOnly s h _

theorem collect_inboxesOnly (h : Head) (cells : List TrackCell) (f : List Byte → State → State)
    (hf : ∀ bs t, inboxesOnly t (f bs t)) : inboxesOnly s (s.collect h cells f) := by
  unfold State.collect
  dsimp only
  split
  · exact inboxesOnly_self s
  · split
    · exact hf _ (s.updLink h _)
    · exact inboxesOnly_self s

theorem setLinkSettings_inboxesOnly (h : Head) (x : HeadSettings) : inboxesOnly s (s.setLinkSettings h x) := by
  unfold State.setLinkSettings
  split
  · exact inboxesOnly_self s
  · split
    · exact linkDown_inboxesOnly s h true
    · exact inboxesOnly_self s

theorem setHead_inboxesOnly (h : Head) (x : HeadSettings) : inboxesOnly s (s.setHead h x) :=
  ((judgeClear_inboxesOnly s h).andThen (inboxesOnly_of_occ
    ((abandonFrame_frame ((s.judgeClear h).updHead h (loadJudgeSettings x)) h).occ (by decide)))).andThen
      (setLinkSettings_inboxesOnly _ h x)

end

end Sys2Proof.Machine
end

-- ==== Proofs of the family "station occupations": the bounds on trails (O34) ====
section
/-! O34: trail_next stays within trail_cap, and at most 16 trail records wait (R22, R23). One lemma for each operation that
writes a record or the write queue; every other command leaves both. -/

namespace Sys2Proof.Machine

/-- An entry of the occupation write queue that holds a trail record. -/
def QueueEntry.isTrail : QueueEntry → Bool
  | .trail _ _ _ _ => true
  | .result _ | .drift _ | .stateWord _ => false

theorem queuedTrails_eq (s : State) : s.queuedTrails = s.occ.queue.countP QueueEntry.isTrail := rfl

theorem queuedTrails_enqueue (s : State) (e : QueueEntry) :
    (s.enqueue e).queuedTrails = s.queuedTrails + if e.isTrail then 1 else 0 := by
  simp [queuedTrails_eq, List.countP_append, List.countP_singleton]

theorem queuedTrails_le_of_sublist {s t : State} (h : t.occ.queue.Sublist s.occ.queue) :
    t.queuedTrails ≤ s.queuedTrails := h.countP_le

/-- What bounds the trails is told by the records and the write queue alone. -/
theorem trailsBounded_of_records {s t : State} (hb : trailsBounded s) (hr : ∀ i, t.record i = s.record i)
    (hq : t.occ.queue.Sublist s.occ.queue) : trailsBounded t :=
  ⟨fun i => by rw [hr i]; exact hb.1 i, (queuedTrails_le_of_sublist hq).trans hb.2⟩

theorem trailsBounded_of_occ {s t : State} (hb : trailsBounded s) (h : t.occ = s.occ) : trailsBounded t :=
  trailsBounded_of_records hb (fun i => by unfold State.record; rw [h]) (by rw [h])

theorem inboxesOnly.trailsBounded {s t : State} (h : inboxesOnly s t) (hb : trailsBounded s) : trailsBounded t :=
  trailsBounded_of_records hb h.record (by rw [h.queue])

section

variable {s : State} (hb : trailsBounded s)

include hb

theorem updRecord_trailsBounded (h : Head) (f : OccRecord → OccRecord)
    (hf : (s.record h).trailNext ≤ (s.record h).trailCap → (f (s.record h)).trailNext ≤ (f (s.record h)).trailCap) :
    trailsBounded (s.updRecord h f) := by
  refine ⟨fun i => ?_, hb.2⟩
  rw [updRecord_record_eq]
  split
  · exact hf (hb.1 h)
  · exact hb.1 i

theorem enqueue_trailsBounded (e : QueueEntry) (he : e.isTrail = true → s.queuedTrails < 16) :
    trailsBounded (s.enqueue e) := by
  refine ⟨hb.1, ?_⟩
  rw [queuedTrails_enqueue]
  split
  · exact he (by assumption)
  · exact hb.2

theorem purgeTrails_trailsBounded : trailsBounded s.purgeTrails :=
  trailsBounded_of_records hb (fun _ => rfl) List.filter_sublist

theorem endOccupation_trailsBounded (h : Head) (o : OccOutcome) : trailsBounded (s.endOccupation h o) :=
  enqueue_trailsBounded (trailsBounded_of_occ (updRecord_trailsBounded hb h _ id)
    ((releaseUse_frame _ _).occ (by decide))) _ (by simp [QueueEntry.isTrail])

theorem enterAcquiring_trailsBounded (h : Head) : trailsBounded (s.enterAcquiring h) := by
  refine updRecord_trailsBounded hb h _ fun bound => ?_
  unfold acquiringRecord
  split <;> exact bound

theorem enterSettling_trailsBounded (h : Head) : trailsBounded (s.enterSettling h) := by
  have settled := updRecord_trailsBounded hb h (fun r => { r with state := .settling }) id
  unfold State.enterSettling
  split
  · exact enterAcquiring_trailsBounded settled h
  · exact settled

theorem linkLoss_trailsBounded (h : Head) : trailsBounded (s.linkLoss h) := by
  unfold State.linkLoss
  dsimp only
  split
  · exact endOccupation_trailsBounded hb h _
  · exact updRecord_trailsBounded hb h _ id

theorem takeRecord_trailsBounded (h : Head) (a : Word) (q : StationRequest) (role : Role) (l : Option LoopId)
    (g : BitVec 32) (c : SetId) : trailsBounded (s.takeRecord h a q role l g c) := by
  have taken : trailsBounded (((s.updRecord h (takenRecord s.now a q role l g c)).purgeTrails).updInbox h fun _ => {}) :=
    purgeTrails_trailsBounded (updRecord_trailsBounded hb h _ fun _ => Nat.zero_le _)
  unfold State.takeRecord
  dsimp only
  split
  · split
    · exact linkLoss_trailsBounded (enterSettling_trailsBounded taken h) h
    · exact enterSettling_trailsBounded taken h
  · split
    · exact linkLoss_trailsBounded taken h
    · exact taken

theorem identityAtRecord_trailsBounded (h : Head) (m : IdentityMsg) : trailsBounded (s.identityAtRecord h m) := by
  unfold State.identityAtRecord
  dsimp only
  split
  · split
    · exact enterSettling_trailsBounded hb h
    · exact endOccupation_trailsBounded hb h _
  · split
    · exact endOccupation_trailsBounded hb h _
    · exact hb
  · split
    · exact endOccupation_trailsBounded hb h _
    · exact hb
  · exact hb
  · exact hb

theorem interrupt_trailsBounded (h : Head) : trailsBounded (s.interrupt h) := by
  have counted := updRecord_trailsBounded hb h (fun r => { r with intr := r.intr + 1 }) id
  unfold State.interrupt
  dsimp only
  split
  · exact endOccupation_trailsBounded counted h _
  · exact enterSettling_trailsBounded (updRecord_trailsBounded counted h _ id) h

theorem linkAtRecord_trailsBounded (h : Head) (j : LinkJudge) : trailsBounded (s.linkAtRecord h j) := by
  unfold State.linkAtRecord
  split
  · split
    · exact linkLoss_trailsBounded hb h
    · exact updRecord_trailsBounded hb h _ id
  · exact hb

/-- A trail record is placed below trail_cap alone, and joins a queue that holds fewer than 16 (R23). -/
theorem placeTrail_trailsBounded (h : Head) (t : TrailRecord)
    (room : (s.record h).trailFault = false → (s.record h).trailNext < (s.record h).trailCap → s.queuedTrails < 16) :
    trailsBounded (s.placeTrail h t) := by
  unfold State.placeTrail
  dsimp only
  split
  · exact hb
  · rename_i fault
    split
    · rename_i below
      exact enqueue_trailsBounded
        (updRecord_trailsBounded hb h (fun r => { r with trailNext := r.trailNext + 1 }) fun _ => below) _
        fun _ => room (by simpa using fault) below
    · exact updRecord_trailsBounded hb h _ id

end

/-- A delivery is held back exactly where it would be trailed and the queue holds 16 trail records (R23). -/
theorem trailWaits_iff {s : State} {h : Head} : s.trailWaits h = true ↔
    (s.record h).trailFault = false ∧ (s.record h).trailNext < (s.record h).trailCap ∧ 16 ≤ s.queuedTrails := by
  simp only [State.trailWaits, willTrail, Bool.and_eq_true, Bool.not_eq_true', decide_eq_true_eq, and_assoc]
  exact Iff.rfl

theorem room_of_not_trailWaits {s : State} {h : Head} (w : ¬ s.trailWaits h = true)
    (fault : (s.record h).trailFault = false) (below : (s.record h).trailNext < (s.record h).trailCap) :
    s.queuedTrails < 16 :=
  Nat.not_le.mp fun full => w (trailWaits_iff.mpr ⟨fault, below, full⟩)

@[simp] theorem countDisposition_trailNext (d : Disposition) (r : OccRecord) :
    (countDisposition d r).trailNext = r.trailNext := by cases d <;> rfl
@[simp] theorem countDisposition_trailCap (d : Disposition) (r : OccRecord) :
    (countDisposition d r).trailCap = r.trailCap := by cases d <;> rfl
@[simp] theorem countDisposition_trailFault (d : Disposition) (r : OccRecord) :
    (countDisposition d r).trailFault = r.trailFault := by cases d <;> rfl

section

variable {s : State} (hb : trailsBounded s)

include hb

theorem takeDisposition_trailsBounded (h : Head) (x : Sample) (t : Nat) (d : Disposition)
    (w : ¬ s.trailWaits h = true) : trailsBounded (s.takeDisposition h x t d) := by
  refine placeTrail_trailsBounded (updRecord_trailsBounded hb h _ (by simp)) h _ fun fault below => ?_
  simp only [updRecord_record_same, countDisposition_trailFault, countDisposition_trailNext,
    countDisposition_trailCap] at fault below
  exact room_of_not_trailWaits (s := s) w fault below

theorem takeCredit_trailsBounded (h : Head) (x : Sample) (t : Nat) (c : Candidate)
    (w : ¬ s.trailWaits h = true) : trailsBounded (s.takeCredit h x t c) := by
  have placed : trailsBounded ((s.updRecord h fun r => { r with acc := creditAcc t c r.acc }).placeTrail h
      ⟨t, x, .accepted, c.corrected⟩) := by
    refine placeTrail_trailsBounded (updRecord_trailsBounded hb h _ id) h _ fun fault below => ?_
    rw [updRecord_record_same] at fault below
    exact room_of_not_trailWaits (s := s) w fault below
  unfold State.takeCredit
  dsimp only
  split
  · exact endOccupation_trailsBounded placed h _
  · exact placed

theorem presentOccupation_trailsBounded : trailsBounded s.presentOccupation := by
  unfold State.presentOccupation
  split
  · exact hb
  · rename_i e rest q
    refine trailsBounded_of_records hb (fun _ => rfl) ?_
    rw [q]
    exact List.sublist_cons_self e rest

theorem recordIdle_trailsBounded (h : Head) : trailsBounded (s.recordIdle h) :=
  trailsBounded_of_occ (updRecord_trailsBounded hb h _ id) (recordIdle_occ s h)

theorem reportIfProvisional_trailsBounded (h : Head) (p : Report) : trailsBounded (s.reportIfProvisional h p) :=
  trailsBounded_of_occ hb ((reportIfProvisional_frame s h p).occ (by decide))

theorem setIssued_trailsBounded (i : Option Issued) : trailsBounded (s.setIssued i) :=
  trailsBounded_of_records hb (fun _ => rfl) (List.Sublist.refl _)

theorem occOkay_trailsBounded : trailsBounded s.occOkay := by
  have freed (i : Option Issued) := setIssued_trailsBounded hb i
  unfold State.occOkay
  split
  · exact hb
  · split
    · exact updRecord_trailsBounded (freed _) _ _ id
    · exact freed _
  · exact trailsBounded_of_occ (freed _) rfl
  · exact updRecord_trailsBounded (freed _) _ _ id
  · exact enqueue_trailsBounded (updRecord_trailsBounded (freed _) _ _ id) _ (by simp [QueueEntry.isTrail])
  · exact recordIdle_trailsBounded (s := ((s.setIssued none).reportIfProvisional _ _).raise .sheet)
      (reportIfProvisional_trailsBounded (freed _) _ _) _

theorem occFault_trailsBounded : trailsBounded s.occFault := by
  have freed := setIssued_trailsBounded hb none
  unfold State.occFault
  split
  · exact hb
  · split
    · exact purgeTrails_trailsBounded (updRecord_trailsBounded freed _ _ id)
    · exact freed
  · exact updRecord_trailsBounded freed _ _ id
  · exact updRecord_trailsBounded freed _ _ id
  · exact recordIdle_trailsBounded (reportIfProvisional_trailsBounded freed _ _) _
  · exact recordIdle_trailsBounded (reportIfProvisional_trailsBounded freed _ _) _

theorem joinAnswered_trailsBounded (h : Head) (a : DriftAnswer) : trailsBounded (s.joinAnswered h a) := by
  unfold State.joinAnswered
  split
  · exact recordIdle_trailsBounded hb h
  · exact enqueue_trailsBounded (updRecord_trailsBounded hb h _ id) _ (by simp [QueueEntry.isTrail])

/-- Of the requesters, the Occupation Controller alone acts on the records and the write queue at an answer. -/
theorem requesterOkay_trailsBounded (r : Requester) (ws : List Word) : trailsBounded (s.requesterOkay r ws) := by
  unfold State.requesterOkay
  split
  · exact trailsBounded_of_occ hb ((walkerOkay_frame s ws).occ (by decide))
  · exact trailsBounded_of_occ hb ((orderOkay_frame s ws).occ (by decide))
  · exact trailsBounded_of_occ hb ((tideOkay_frame s ws).occ (by decide))
  · exact occOkay_trailsBounded hb
  · exact trailsBounded_of_occ hb ((driftOkay_frame s).occ (by decide))
  · exact trailsBounded_of_occ hb ((controlOkay_frame s ws).occ (by decide))

theorem portFault_trailsBounded (r : Requester) (d : Direction) (a : Nat) (k : FaultKind) :
    trailsBounded (s.portFault r d a k) := by
  have recorded : trailsBounded (s.recordFault r d a k) :=
    trailsBounded_of_occ hb ((recordFault_frame s r d a k).occ (by decide))
  unfold State.portFault State.requesterFault
  split
  · exact trailsBounded_of_occ recorded ((walkerFault_frame _).occ (by decide))
  · exact trailsBounded_of_occ recorded ((orderFault_frame _ k).occ (by decide))
  · exact trailsBounded_of_occ recorded ((tideFault_frame _ k).occ (by decide))
  · exact occFault_trailsBounded recorded
  · exact trailsBounded_of_occ recorded ((driftFault_frame _).occ (by decide))
  · exact trailsBounded_of_occ recorded ((controlFault_frame _).occ (by decide))

theorem presentNext_trailsBounded (r : Requester) : trailsBounded (s.presentNext r) := by
  unfold State.presentNext
  split
  · exact trailsBounded_of_occ hb ((presentWalker_frame s).occ (by decide))
  · split
    · exact hb
    · exact trailsBounded_of_occ hb rfl
  · exact trailsBounded_of_occ hb ((presentTide_frame s).occ (by decide))
  · exact presentOccupation_trailsBounded hb
  · split
    · exact hb
    · exact trailsBounded_of_occ hb rfl
  · split
    · exact trailsBounded_of_occ hb ((presentDirectory_frame s).occ (by decide))
    · unfold State.presentRefresh
      split
      · exact trailsBounded_of_occ hb rfl
      · exact hb

theorem formGrant_trailsBounded (n : Fin 6) (x : Transfer) : trailsBounded (s.formGrant n x) := by
  unfold State.formGrant
  dsimp only
  split
  · exact trailsBounded_of_occ hb rfl
  · exact portFault_trailsBounded (s := { s with port := { s.port with pointer := n } }) hb _ _ _ _

theorem grantOkay_trailsBounded (g : Grant) (ws : List Word) : trailsBounded (s.grantOkay g ws) := by
  unfold State.grantOkay
  dsimp only
  split
  · exact trailsBounded_of_occ hb rfl
  · split
    · exact requesterOkay_trailsBounded (s := (s.setGrant none).setSlot g.requester none) hb _ _
    · exact trailsBounded_of_occ hb rfl

theorem grantRetry_trailsBounded (g : Grant) : trailsBounded (s.grantRetry g) := by
  unfold State.grantRetry
  split
  · exact trailsBounded_of_occ hb rfl
  · exact portFault_trailsBounded (s := s.setGrant none) hb _ _ _ _

theorem takeStation_trailsBounded (k : Look) (q : StationRequest) (c : SetId) (role : Role) :
    trailsBounded (s.takeStation k q c role) := by
  unfold State.takeStation
  split
  · exact trailsBounded_of_occ hb ((refuseSheet_frame s k _).occ (by decide))
  · split
    · exact trailsBounded_of_occ hb ((refuseSheet_frame s k _).occ (by decide))
    · rename_i t g checked
      have same : t.occ = s.occ := by
        unfold State.sheetLoopCheck at checked
        split at checked
        · cases checked
          rfl
        · obtain ⟨u, hu, e⟩ := Option.map_eq_some_iff.mp checked
          cases e
          exact (loopCheck_frame s _ _ _ hu).occ (by decide)
      exact trailsBounded_of_occ
        (takeRecord_trailsBounded (trailsBounded_of_occ hb same) _ _ _ _ _ _ _)
        ((passCandidate_frame _ _ _).occ (by decide))

end

/-- The state that an outcome answers, where it answers one, satisfies `P`. -/
def answersOnly (P : State → Prop) (o : Host.Outcome State Fault Refusal) : Prop := ∀ t, o = .next t → P t

theorem answersOnly_next {P : State → Prop} {t : State} (h : P t) : answersOnly P (.next t) := by
  rintro _ ⟨⟩
  exact h

theorem trailsBounded_reset (s : State) (h : s.occ = {}) : trailsBounded s := by
  unfold trailsBounded State.queuedTrails State.record
  rw [h]
  decide

theorem exec_trailsBounded (c : Instr) {s : State} (hb : trailsBounded s) : answersOnly trailsBounded (exec c s) := by
  have same {t : State} (h : t.occ = s.occ) : answersOnly trailsBounded (.next t) :=
    answersOnly_next (trailsBounded_of_occ hb h)
  have messages {t : State} (h : inboxesOnly s t) : answersOnly trailsBounded (.next t) :=
    answersOnly_next (h.trailsBounded hb)
  have idle : answersOnly trailsBounded (.next s) := answersOnly_next hb
  by_cases touches : Block.occ ∈ mayChange c
  · cases c with
    | powerOnReset => exact answersOnly_next (trailsBounded_reset _ rfl)
    | reset w => exact answersOnly_next (trailsBounded_reset _ rfl)
    | accessPresent r =>
      simp only [exec, execAccessPresent]
      split
      · exact answersOnly_next (presentNext_trailsBounded hb r)
      · exact idle
    | grant =>
      simp only [exec, execGrant]
      split
      · split
        · exact idle
        · split
          · exact idle
          · exact answersOnly_next (formGrant_trailsBounded hb _ _)
      · exact idle
    | busAnswer a =>
      simp only [exec, execBusAnswer]
      split
      · exact idle
      · split
        · exact same ((discardedAnswer_frame s).occ (by decide))
        · split
          · split
            · exact answersOnly_next (grantOkay_trailsBounded hb _ _)
            · exact idle
          · exact answersOnly_next (grantRetry_trailsBounded hb _)
          · exact answersOnly_next (portFault_trailsBounded (s := s.setGrant none) hb _ _ _ _)
    | headerComplete h cells =>
      simp only [exec, execHeaderComplete]
      split
      · exact messages (collect_inboxesOnly s h cells _ fun bs t => checkHeader_inboxesOnly t h bs)
      · exact idle
    | frameEnd h cells =>
      simp only [exec, execFrameEnd]
      split
      · exact messages (collect_inboxesOnly s h cells _ fun bs t => checkFrame_inboxesOnly t h bs)
      · exact idle
    | timingLoss h cell =>
      simp only [exec, execTimingLoss]
      split
      · split
        · exact idle
        · exact messages (badFrame_inboxesOnly (s.updLink h lossLink) h)
      · exact idle
    | silenceExpiry h =>
      refine messages ?_
      split
      · exact linkDown_inboxesOnly s h true
      · exact inboxesOnly_self s
    | headResetLinkPart =>
      simp only [exec, execHeadResetLinkPart]
      split
      · refine messages (inboxesOnly.andThen ?_ (inboxesOnly_of_occ ((resetPart_frame _ _ _ _).occ (by decide))))
        split
        · exact linkDown_inboxesOnly s (headOfArg s.order.arg0) false
        · exact inboxesOnly_self s
      · exact idle
    | headResetJudgePart =>
      simp only [exec, execHeadResetJudgePart]
      split
      · split
        · exact messages (((judgeClear_inboxesOnly s (headOfArg s.order.arg0)).andThen (inboxesOnly_of_occ
            ((abandonFrame_frame (State.updHead _ forgottenHead _) _).occ (by decide)))).andThen
              (inboxesOnly_of_occ ((resetPart_frame _ _ _ _).occ (by decide))))
        · exact idle
      · exact idle
    | frameChoice =>
      simp only [exec, execFrameChoice]
      split
      · exact idle
      · split
        · exact idle
        · split
          · exact messages (takeIdent_inboxesOnly (s.removeFrame _) _ _)
          · exact same ((beginFrame_frame (s.removeFrame _) _ _).occ (by decide))
    | judgingEvent =>
      simp only [exec, execJudgingEvent]
      split
      · exact idle
      · split
        · exact messages (judgeNext_inboxesOnly s _ _)
        · exact idle
    | linkDownAtCorrection h =>
      simp only [exec, execLinkDownAtCorrection]
      split
      · exact messages (judgeClear_inboxesOnly (s.updDownMsgs h (· - 1)) h)
      · exact idle
    | setHead =>
      simp only [exec, execSetHead]
      split
      · split
        · exact messages (setHead_inboxesOnly s _ _)
        · exact same rfl
      · exact idle
    | identityReport h =>
      simp only [exec, execIdentityReport]
      split
      · exact idle
      · exact answersOnly_next (identityAtRecord_trailsBounded (s := s.updInbox h _) hb h _)
    | judgeTransitionSettled h =>
      simp only [exec, execJudgeTransitionSettled]
      split
      · split
        · exact answersOnly_next (enterAcquiring_trailsBounded (s := s.updInbox h _) hb h)
        · exact messages (updInbox_inboxesOnly s h _)
      · exact idle
      · exact idle
    | interruption h =>
      simp only [exec, execInterruption]
      split
      · split
        · exact answersOnly_next (interrupt_trailsBounded (s := s.updInbox h _) hb h)
        · exact messages (updInbox_inboxesOnly s h _)
      · exact idle
      · exact idle
    | linkTransitionAtRecord h =>
      simp only [exec, execLinkTransitionAtRecord]
      split
      · exact idle
      · exact answersOnly_next (linkAtRecord_trailsBounded (s := s.updInbox h _) hb h _)
    | disposition =>
      simp only [exec, execDisposition]
      split
      · exact idle
      · split
        · split
          · split
            · exact idle
            · exact answersOnly_next (trailsBounded_of_occ
                (takeDisposition_trailsBounded hb _ _ _ _ (by assumption)) ((sampleDone_frame _ _).occ (by decide)))
          · exact same ((sampleDone_frame s _).occ (by decide))
        · exact idle
    | credit =>
      simp only [exec, execCredit]
      split
      · exact idle
      · split
        · split
          · split
            · exact idle
            · exact answersOnly_next (trailsBounded_of_occ
                (takeCredit_trailsBounded hb _ _ _ _ (by assumption)) ((sampleDone_frame _ _).occ (by decide)))
          · exact same ((sampleDone_frame s _).occ (by decide))
        · exact idle
    | settleExpiry h =>
      simp only [exec, execSettleExpiry]
      split
      · exact answersOnly_next (endOccupation_trailsBounded hb h _)
      · exact idle
    | acquireExpiry h =>
      simp only [exec, execAcquireExpiry]
      split
      · exact answersOnly_next (endOccupation_trailsBounded hb h _)
      · exact idle
    | graceExpiry h =>
      simp only [exec, execGraceExpiry]
      split
      · exact answersOnly_next (endOccupation_trailsBounded hb h _)
      · exact idle
    | headResetRecordPart =>
      simp only [exec, execHeadResetRecordPart]
      split
      · split
        · exact idle
        · refine answersOnly_next (trailsBounded_of_occ ?_ ((resetPart_frame _ _ _ _).occ (by decide)))
          split
          · exact endOccupation_trailsBounded hb _ _
          · exact hb
      · exact idle
    | cancel =>
      simp only [exec, execCancel]
      split
      · split
        · exact same rfl
        · split
          · exact answersOnly_next (trailsBounded_of_occ (endOccupation_trailsBounded hb _ _) rfl)
          · exact same rfl
      · exact idle
    | join h =>
      simp only [exec, execJoin]
      split
      · exact answersOnly_next (joinAnswered_trailsBounded
          (trailsBounded_of_occ hb ((joinOf_frame s h _).occ (by decide))) h _)
      · exact idle
    | take =>
      simp only [exec, execTake]
      split
      · exact idle
      · split
        · split
          · exact idle
          · exact answersOnly_next (takeStation_trailsBounded hb _ _ _ _)
        · exact idle
    | _ => simp [mayChange] at touches
  · exact fun t e => trailsBounded_of_occ hb ((frame_of_exec e).occ touches)

/-- Settles O34: a step is a command, which keeps the bounds, or one millisecond, which touches no record. -/
theorem trailsStayBounded : Obligations.TrailsStayBounded := by
  intro s t hb h
  rcases step_cases h with ⟨_, rfl⟩ | ⟨c, rest, _, e⟩
  · exact trailsBounded_of_occ hb rfl
  · exact exec_trailsBounded c (s := { s with pending := rest }) hb t e

end Sys2Proof.Machine
end

-- ==== Proofs of the family "station occupations": the record's operations, case by case ====
section
/-! SUPPORT. What each operation of an occupation record makes of the state, one equation for each of its cases; the
statements about the record's commands are read off these. -/

namespace Sys2Proof.Machine

theorem live_iff {st : OccState} : st.live = true ↔ st = .identifying ∨ st = .settling ∨ st = .acquiring := by
  cases st <;> simp [OccState.live]

theorem not_live_iff {st : OccState} : ¬ st.live = true ↔ st = .idle ∨ st = .writing := by
  cases st <;> simp [OccState.live]

section

variable {s : State} {h : Head}

/-! ### Updates of one record -/

theorem updRecord_updRecord (f g : OccRecord → OccRecord) :
    (s.updRecord h f).updRecord h g = s.updRecord h fun r => g (f r) := by
  simp [State.updRecord, State.record]

theorem updRecord_fixed {f : OccRecord → OccRecord} (e : f (s.record h) = s.record h) : s.updRecord h f = s := by
  unfold State.updRecord
  rw [e]
  simp [State.record]

/-! ### Entries into SETTLING and ACQUIRING (R4, R8) -/

/-- The acquire timer is armed at the first entry into ACQUIRING alone (R8). -/
theorem acquiringRecord_eq (now : Nat) (r : OccRecord) : acquiringRecord now r =
    { r with state := .acquiring, settleTimer := none, acqSeen := true,
             acquireTimer := if r.acqSeen then r.acquireTimer else some (now + r.acquireLimit * 1000) } := by
  unfold acquiringRecord
  by_cases seen : r.acqSeen = true
  · rw [if_pos seen, if_pos seen]
    cases r
    cases seen
    rfl
  · rw [if_neg seen, if_neg seen]

theorem enterSettling_of_unsettled (j : (s.headState h).judge = .unsettled) :
    s.enterSettling h = s.updRecord h fun r => { r with state := .settling } := by
  simp [State.enterSettling, j]

theorem enterSettling_of_settled (j : (s.headState h).judge = .settled) :
    s.enterSettling h = (s.updRecord h fun r => { r with state := .settling }).enterAcquiring h := by
  simp [State.enterSettling, j]

theorem enterAcquiring_record : (s.enterAcquiring h).record h = acquiringRecord s.now (s.record h) :=
  updRecord_record_same s h _

/-! ### Identity reports (R6, R7) -/

theorem identityAtRecord_match {m : IdentityMsg} (st : (s.record h).state = .identifying)
    (e : m.serial = (s.calSet (s.record h).calSet).contents.serial) :
    s.identityAtRecord h m = s.enterSettling h := by
  simp [State.identityAtRecord, st, e]

theorem identityAtRecord_mismatch {m : IdentityMsg}
    (c : (s.record h).state = .identifying ∧ m.serial ≠ (s.calSet (s.record h).calSet).contents.serial ∨
      ((s.record h).state = .settling ∨ (s.record h).state = .acquiring) ∧ m.change = true) :
    s.identityAtRecord h m = s.endOccupation h .headMismatch := by
  rcases c with ⟨st, e⟩ | ⟨st | st, e⟩ <;> simp [State.identityAtRecord, st, e]

theorem identityAtRecord_ignored {m : IdentityMsg}
    (c : ((s.record h).state = .settling ∨ (s.record h).state = .acquiring) ∧ m.change = false ∨
      (s.record h).state = .writing ∨ (s.record h).state = .idle) : s.identityAtRecord h m = s := by
  rcases c with ⟨st | st, e⟩ | st | st <;> simp [State.identityAtRecord, *]

theorem exec_identityReport {m : IdentityMsg} {rest : List IdentityMsg}
    (q : (s.inbox h).identityMsgs = m :: rest) : exec (.identityReport h) s =
      .next ((s.updInbox h fun b => { b with identityMsgs := rest }).identityAtRecord h m) := by
  simp only [exec, execIdentityReport, q]

/-! ### Interruptions (R9, R10) -/

theorem interrupt_beyond (c : (s.record h).maxIntr < (s.record h).intr + 1) : s.interrupt h =
    (s.updRecord h fun r => { r with intr := r.intr + 1 }).endOccupation h .interrupted := by
  simp [State.interrupt, c]

theorem interrupt_within (c : (s.record h).intr + 1 ≤ (s.record h).maxIntr)
    (j : (s.headState h).judge = .unsettled) : s.interrupt h = s.updRecord h fun r =>
      { r with state := .settling, intr := r.intr + 1,
               settleTimer := some (s.now + r.settleLimit * 1000), acc := keptAcc r } := by
  unfold State.interrupt
  dsimp only
  rw [if_neg (by simpa using c), enterSettling_of_unsettled (by exact j), updRecord_updRecord, updRecord_updRecord]
  rfl

/-! ### Link transitions (R17) -/

theorem linkLoss_no_grace (g : (s.record h).linkGrace = 0) : s.linkLoss h = s.endOccupation h .linkLost := by
  simp [State.linkLoss, g]

theorem linkLoss_grace (g : (s.record h).linkGrace ≠ 0) :
    s.linkLoss h = s.updRecord h fun r => { r with graceTimer := some (s.now + r.linkGrace * 1000) } := by
  simp [State.linkLoss, g]

theorem linkAtRecord_down (live : (s.record h).state.live = true) : s.linkAtRecord h .down = s.linkLoss h := by
  simp [State.linkAtRecord, live]

theorem linkAtRecord_up (live : (s.record h).state.live = true) :
    s.linkAtRecord h .up = s.updRecord h fun r => { r with graceTimer := none } := by
  simp [State.linkAtRecord, live]

theorem linkAtRecord_ignored {j : LinkJudge} (dead : ¬ (s.record h).state.live = true) :
    s.linkAtRecord h j = s := by
  simp [State.linkAtRecord, dead]

theorem exec_linkTransitionAtRecord {j : LinkJudge} {rest : List LinkJudge}
    (q : (s.inbox h).linkMsgs = j :: rest) : exec (.linkTransitionAtRecord h) s =
      .next ((s.updInbox h fun b => { b with linkMsgs := rest }).linkAtRecord h j) := by
  simp only [exec, execLinkTransitionAtRecord, q]

/-! ### Trail records (R23) -/

theorem placeTrail_placed {t : TrailRecord} (fault : (s.record h).trailFault = false)
    (below : (s.record h).trailNext < (s.record h).trailCap) : s.placeTrail h t =
      (s.updRecord h fun r => { r with trailNext := r.trailNext + 1 }).enqueue
        (.trail h (s.record h).takeNo ((s.record h).trailBase + 32 * (s.record h).trailNext) t) := by
  simp [State.placeTrail, fault, below, Config.trailRecordBytes]

/-- Past trail_cap the overflow is noted, and after a trail fault nothing is (R23, R24). -/
theorem placeTrail_unplaced {t : TrailRecord}
    (c : (s.record h).trailFault = true ∨ (s.record h).trailCap ≤ (s.record h).trailNext) : s.placeTrail h t =
      s.updRecord h fun r => { r with trailOverflow := if r.trailFault then r.trailOverflow else true } := by
  unfold State.placeTrail
  dsimp only
  by_cases fault : (s.record h).trailFault = true
  · rw [if_pos fault]
    exact (updRecord_fixed (by rw [if_pos fault])).symm
  · rw [if_neg fault, if_neg (Nat.not_lt.mpr (c.resolve_left fault))]
    simp [State.updRecord, fault]

end

end Sys2Proof.Machine
end

-- ==== Proofs of the family "station occupations": messages and timers at the record (O28, O29, O32, O33) ====
section

namespace Sys2Proof.Machine

/-- Settles O28, by the record's state and the report's kind. -/
theorem identityReportTaken : Obligations.IdentityReportTaken := by
  intro h m rest s q
  have taken := exec_identityReport q
  set u := s.updInbox h fun b => { b with identityMsgs := rest } with hu
  have frame : unchangedBut [.occ] s u := updInbox_frame s h _
  have inbox : u.inbox h = { s.inbox h with identityMsgs := rest } := updInbox_inbox_same s h _
  refine ⟨fun st e j => ?_, fun st e j => ?_, fun c => ?_, fun c => ?_⟩
  · rw [identityAtRecord_match (s := u) st e, enterSettling_of_unsettled (s := u) j] at taken
    exact ⟨_, taken, updRecord_record_same u h _, inbox, frame.andThen (updRecord_frame u h _) (by decide)⟩
  · rw [identityAtRecord_match (s := u) st e, enterSettling_of_settled (s := u) j] at taken
    refine ⟨_, taken, ?_, ?_, (frame.andThen (updRecord_frame u h _) (fun _ b => b)).andThen
      (enterAcquiring_frame _ h) (by decide)⟩
    all_goals rw [enterAcquiring_record, acquiringRecord_eq]
  · rw [identityAtRecord_mismatch (s := u) c] at taken
    refine ⟨_, taken, ?_, ?_, endOccupation_queue u h _, ?_, frame.andThen (endOccupation_frame u h _) (by decide)⟩
    · rw [endOccupation_record]
    · rw [endOccupation_record]
    · exact congrArg CalSet.use (endOccupation_calSet u h _)
  · rw [identityAtRecord_ignored (s := u) c] at taken
    exact taken

/-- Settles O29: a transition to SETTLED, then an interruption beyond max_intr, within it, and elsewhere. -/
theorem judgeTransitionsAtTheRecord : Obligations.JudgeTransitionsAtTheRecord := by
  intro h rest s
  set u := s.updInbox h fun b => { b with judgeMsgs := rest } with hu
  have frame : unchangedBut [.occ] s u := updInbox_frame s h _
  have inbox : u.inbox h = { s.inbox h with judgeMsgs := rest } := updInbox_inbox_same s h _
  refine ⟨fun q => ⟨fun st => ?_, fun st => ?_⟩, fun q => ⟨fun st c => ?_, fun st c j => ?_, fun st => ?_⟩⟩
  · have entered : u.enterAcquiring h = u.updRecord h fun r =>
        { r with state := .acquiring, settleTimer := none, acqSeen := true,
                 acquireTimer := if r.acqSeen then r.acquireTimer
                   else some (s.ctrl.elapsed.toNat + r.acquireLimit * 1000) } :=
      congrArg (u.updRecord h) (funext fun r => acquiringRecord_eq u.now r)
    rw [← entered]
    simp only [exec, execJudgeTransitionSettled, q, st, if_true, hu]
  · simp only [exec, execJudgeTransitionSettled, q, st, if_false, hu]
  · have taken : exec (.interruption h) s = .next (u.interrupt h) := by
      simp only [exec, execInterruption, q, st, if_true, hu]
    rw [interrupt_beyond (s := u) c] at taken
    refine ⟨_, taken, ?_, ?_, ?_, endOccupation_queue _ h _,
      (frame.andThen (updRecord_frame u h _) (fun _ b => b)).andThen (endOccupation_frame _ h _) (by decide)⟩
    all_goals rw [endOccupation_record]
    rw [updRecord_record_same, hu, updInbox_record]
  · have taken : exec (.interruption h) s = .next (u.interrupt h) := by
      simp only [exec, execInterruption, q, st, if_true, hu]
    rw [interrupt_within (s := u) c j] at taken
    exact ⟨_, taken, updRecord_record_same u h _, inbox,
      frame.andThen (updRecord_frame u h _) (by decide)⟩
  · simp only [exec, execInterruption, q, st, if_false, hu]

theorem due_of_le {s : State} {n : Nat} (le : n ≤ s.ctrl.elapsed.toNat) : s.due (some n) = true :=
  decide_eq_true le

/-- Settles O32: an expiry that is due ends the occupation with its outcome. -/
theorem timerExpiriesEndOccupations : Obligations.TimerExpiriesEndOccupations := by
  intro h s n ended hended le
  have ends (o : OccOutcome) : ended o = s.endOccupation h o := hended o
  refine ⟨fun t st => ?_, fun t st => ?_, fun t st => ?_⟩
  · rw [ends]
    simp only [exec, execSettleExpiry, t, due_of_le le, st, and_self, if_true]
  · rw [ends]
    simp only [exec, execAcquireExpiry, t, due_of_le le, st, and_self, if_true]
  · rw [ends]
    simp only [exec, execGraceExpiry, t, due_of_le le, live_iff.mpr st, and_self, if_true]

/-- Settles O33, by the record's state, the transition and the grace. -/
theorem linkTransitionsAtTheRecord : Obligations.LinkTransitionsAtTheRecord := by
  intro h j rest s u q hu
  have taken : exec (.linkTransitionAtRecord h) s = .next (u.linkAtRecord h j) := by
    rw [exec_linkTransitionAtRecord q, hu]
  have record : u.record h = s.record h := by rw [hu, updInbox_record]
  have now : u.now = s.ctrl.elapsed.toNat := by rw [hu, updInbox_now]; rfl
  rw [← record]
  refine ⟨fun st => ⟨?_, ?_, ?_⟩, fun st => ?_⟩
  · rintro rfl g
    rw [taken, linkAtRecord_down (live_iff.mpr st), linkLoss_grace g, now]
  · rintro rfl g
    rw [linkAtRecord_down (live_iff.mpr st), linkLoss_no_grace g] at taken
    refine ⟨_, taken, ?_, ?_, ?_, ?_⟩
    · rw [endOccupation_record]
    · rw [endOccupation_record]
    · rw [endOccupation_queue, hu]
      rfl
    · subst hu
      exact (updInbox_frame s h _).andThen (endOccupation_frame _ h _) (by decide)
  · rintro rfl
    rw [taken, linkAtRecord_up (live_iff.mpr st)]
  · rw [taken, linkAtRecord_ignored (not_live_iff.mpr st)]

end Sys2Proof.Machine
end

-- ==== Proofs of the family "station occupations": deliveries at the record (O30, O31) ====
section

namespace Sys2Proof.Machine

section

variable {s : State} {e : Evaluator} {c : Context} {x : Sample} {time : Nat}

/-! ### What DISPOSITION and CREDIT do with a delivery (R11 to R13, R23) -/

theorem exec_disposition_held {d : Disposition} (he : s.corr.evaluator = some e) (hc : e.context = some c)
    (hp : e.phase = .delivering x time d) (live : (s.record e.head).state.live = true)
    (found : (s.record e.head).takeNo = c.takeNo) (w : s.trailWaits e.head = true) :
    exec .disposition s = .next s := by
  simp only [exec, execDisposition, he, hc, hp, live, found, w, and_self, if_true]

theorem exec_disposition_taken {d : Disposition} (he : s.corr.evaluator = some e) (hc : e.context = some c)
    (hp : e.phase = .delivering x time d) (live : (s.record e.head).state.live = true)
    (found : (s.record e.head).takeNo = c.takeNo) (w : ¬ s.trailWaits e.head = true) :
    exec .disposition s = .next ((s.takeDisposition e.head x time d).sampleDone e) := by
  simp only [exec, execDisposition, he, hc, hp, live, found, w, and_self, if_true, Bool.false_eq_true, if_false]

theorem exec_disposition_dropped {d : Disposition} (he : s.corr.evaluator = some e) (hc : e.context = some c)
    (hp : e.phase = .delivering x time d)
    (lost : ¬ ((s.record e.head).state.live = true ∧ (s.record e.head).takeNo = c.takeNo)) :
    exec .disposition s = .next (s.sampleDone e) := by
  simp only [exec, execDisposition, he, hc, hp, lost, if_false]

theorem exec_credit_held {k : Candidate} (he : s.corr.evaluator = some e) (hc : e.context = some c)
    (hp : e.phase = .crediting x time k) (st : (s.record e.head).state = .acquiring)
    (found : (s.record e.head).takeNo = c.takeNo) (w : s.trailWaits e.head = true) :
    exec .credit s = .next s := by
  simp only [exec, execCredit, he, hc, hp, st, found, w, and_self, if_true]

theorem exec_credit_taken {k : Candidate} (he : s.corr.evaluator = some e) (hc : e.context = some c)
    (hp : e.phase = .crediting x time k) (st : (s.record e.head).state = .acquiring)
    (found : (s.record e.head).takeNo = c.takeNo) (w : ¬ s.trailWaits e.head = true) :
    exec .credit s = .next ((s.takeCredit e.head x time k).sampleDone e) := by
  simp only [exec, execCredit, he, hc, hp, st, found, w, and_self, if_true, Bool.false_eq_true, if_false]

theorem exec_credit_dropped {k : Candidate} (he : s.corr.evaluator = some e) (hc : e.context = some c)
    (hp : e.phase = .crediting x time k)
    (lost : ¬ ((s.record e.head).state = .acquiring ∧ (s.record e.head).takeNo = c.takeNo)) :
    exec .credit s = .next (s.sampleDone e) := by
  simp only [exec, execCredit, he, hc, hp, lost, if_false]

end

/-! ### The record that has taken a delivery -/

section

variable {s : State} {h : Head} {x : Sample} {time : Nat}

theorem takeDisposition_placed {d : Disposition} (fault : (s.record h).trailFault = false)
    (below : (s.record h).trailNext < (s.record h).trailCap) : s.takeDisposition h x time d =
      (s.updRecord h fun r => { countDisposition d r with trailNext := r.trailNext + 1 }).enqueue
        (.trail h (s.record h).takeNo ((s.record h).trailBase + 32 * (s.record h).trailNext) ⟨time, x, d, 0⟩) := by
  unfold State.takeDisposition
  rw [placeTrail_placed (by simpa using fault) (by simpa using below), updRecord_updRecord]
  cases d <;> simp [countDisposition]

theorem takeDisposition_unplaced {d : Disposition}
    (past : (s.record h).trailFault = true ∨ (s.record h).trailCap ≤ (s.record h).trailNext) :
    s.takeDisposition h x time d = s.updRecord h fun r =>
      { countDisposition d r with trailOverflow := if r.trailFault then r.trailOverflow else true } := by
  unfold State.takeDisposition
  rw [placeTrail_unplaced (by simpa using past), updRecord_updRecord]
  cases d <;> rfl

/-- The state after the trail record of a credit, before the test against target (R12, R16, R23). -/
def State.credited (h : Head) (x : Sample) (t : Nat) (k : Candidate) (s : State) : State :=
  (s.updRecord h fun r => { r with acc := creditAcc t k r.acc }).placeTrail h ⟨t, x, .accepted, k.corrected⟩

theorem credited_placed {k : Candidate} (fault : (s.record h).trailFault = false)
    (below : (s.record h).trailNext < (s.record h).trailCap) : s.credited h x time k =
      (s.updRecord h fun r =>
        { r with acc := creditAcc time k r.acc, trailNext := r.trailNext + 1 }).enqueue
          (.trail h (s.record h).takeNo ((s.record h).trailBase + 32 * (s.record h).trailNext)
            ⟨time, x, .accepted, k.corrected⟩) := by
  unfold State.credited
  rw [placeTrail_placed (by simpa using fault) (by simpa using below), updRecord_updRecord]
  simp

theorem credited_unplaced {k : Candidate}
    (past : (s.record h).trailFault = true ∨ (s.record h).trailCap ≤ (s.record h).trailNext) :
    s.credited h x time k = s.updRecord h fun r =>
      { r with acc := creditAcc time k r.acc,
               trailOverflow := if r.trailFault then r.trailOverflow else true } := by
  unfold State.credited
  rw [placeTrail_unplaced (by simpa using past), updRecord_updRecord]

/-- Whether or not its trail record is placed, a credit leaves the accumulation with it and the take as it was. -/
theorem credited_record (k : Candidate) : ∃ n o, (s.credited h x time k).record h =
    { s.record h with acc := creditAcc time k (s.record h).acc, trailNext := n, trailOverflow := o } := by
  by_cases room : (s.record h).trailFault = false ∧ (s.record h).trailNext < (s.record h).trailCap
  · rw [credited_placed room.1 room.2, enqueue_record, updRecord_record_same]
    exact ⟨_, (s.record h).trailOverflow, rfl⟩
  · have past : (s.record h).trailFault = true ∨ (s.record h).trailCap ≤ (s.record h).trailNext := by
      rw [not_and_or, Bool.not_eq_false, Nat.not_lt] at room
      exact room
    rw [credited_unplaced past, updRecord_record_same]
    exact ⟨(s.record h).trailNext, _, rfl⟩

theorem credited_frame (k : Candidate) : unchangedBut [.occ] s (s.credited h x time k) :=
  (updRecord_frame s h _).andThen (placeTrail_frame _ _ _) (by decide)

theorem credited_record_ne {k : Candidate} {i : Head} (n : i ≠ h) :
    (s.credited h x time k).record i = s.record i := by
  by_cases room : (s.record h).trailFault = false ∧ (s.record h).trailNext < (s.record h).trailCap
  · rw [credited_placed room.1 room.2, enqueue_record, updRecord_record_ne _ _ _ _ n]
  · rw [not_and_or, Bool.not_eq_false, Nat.not_lt] at room
    rw [credited_unplaced room, updRecord_record_ne _ _ _ _ n]

theorem takeCredit_eq (k : Candidate) : s.takeCredit h x time k =
    if (s.record h).acc.accepted + 1 = (s.record h).target then
      (s.credited h x time k).endOccupation h .complete else s.credited h x time k := by
  obtain ⟨n, o, e⟩ := credited_record (s := s) (h := h) (x := x) (time := time) k
  have tested : s.takeCredit h x time k =
      if ((s.credited h x time k).record h).acc.accepted = ((s.credited h x time k).record h).target then
        (s.credited h x time k).endOccupation h .complete else s.credited h x time k := rfl
  rw [tested, e]
  rfl

theorem takeCredit_completes {k : Candidate} (full : (s.record h).acc.accepted + 1 = (s.record h).target) :
    s.takeCredit h x time k = (s.credited h x time k).endOccupation h .complete := by
  rw [takeCredit_eq, if_pos full]

theorem takeCredit_continues {k : Candidate} (more : (s.record h).acc.accepted + 1 ≠ (s.record h).target) :
    s.takeCredit h x time k = s.credited h x time k := by
  rw [takeCredit_eq, if_neg more]

/-- What becomes of the record's accumulation and trail does not depend on the test against target. -/
theorem takeCredit_record (k : Candidate) :
    ((s.takeCredit h x time k).record h).acc = creditAcc time k (s.record h).acc ∧
    ((s.takeCredit h x time k).record h).trailNext = ((s.credited h x time k).record h).trailNext ∧
    ((s.takeCredit h x time k).record h).trailOverflow = ((s.credited h x time k).record h).trailOverflow := by
  obtain ⟨n, o, e⟩ := credited_record (s := s) (h := h) (x := x) (time := time) k
  by_cases full : (s.record h).acc.accepted + 1 = (s.record h).target
  · rw [takeCredit_completes full, endOccupation_record, e]
    exact ⟨rfl, rfl, rfl⟩
  · rw [takeCredit_continues full, e]
    exact ⟨rfl, rfl, rfl⟩

theorem takeCredit_record_ne {k : Candidate} {i : Head} (n : i ≠ h) :
    (s.takeCredit h x time k).record i = s.record i := by
  by_cases full : (s.record h).acc.accepted + 1 = (s.record h).target
  · rw [takeCredit_completes full, endOccupation_record_ne _ _ _ _ n, credited_record_ne n]
  · rw [takeCredit_continues full, credited_record_ne n]

theorem takeCredit_queue (k : Candidate) : (s.takeCredit h x time k).occ.queue =
    (s.credited h x time k).occ.queue ++
      if (s.record h).acc.accepted + 1 = (s.record h).target then [.result h] else [] := by
  by_cases full : (s.record h).acc.accepted + 1 = (s.record h).target
  · rw [takeCredit_completes full, endOccupation_queue, if_pos full]
  · rw [takeCredit_continues full, if_neg full, List.append_nil]

end

/-- Settles O30: placed, held back, past the trail, dropped. -/
theorem dispositionIsCountedAndTrailed : Obligations.DispositionIsCountedAndTrailed := by
  intro s e c x time d r counted he hc hp hr hcounted
  have counts : counted = countDisposition d r := by rw [hcounted]; cases d <;> rfl
  subst hr counts
  have frame (t : State) (o : unchangedBut [.occ] s t) : unchangedBut [.occ, .corr] s (t.sampleDone e) :=
    o.andThen (sampleDone_frame t e) (by decide)
  refine ⟨fun live found fault below room => ?_, fun live found fault below full => ?_,
    fun live found past => ?_, fun lost => ?_⟩
  · have taken := exec_disposition_taken he hc hp (live_iff.mpr live) found
      fun w => Nat.not_le.mpr room (trailWaits_iff.mp w).2.2
    refine ⟨_, taken, ?_, ?_, ?_, frame _ (takeDisposition_frame s _ _ _ _)⟩ <;>
      rw [sampleDone_eq, takeDisposition_placed fault below]
    · rw [setEvaluator_record, enqueue_record, updRecord_record_same]
    · rfl
    · rfl
  · exact exec_disposition_held he hc hp (live_iff.mpr live) found (trailWaits_iff.mpr ⟨fault, below, full⟩)
  · have taken := exec_disposition_taken he hc hp (live_iff.mpr live) found fun w => by
      obtain ⟨fault, below, _⟩ := trailWaits_iff.mp w
      simp [fault, Nat.not_le.mpr below] at past
    refine ⟨_, taken, ?_, ?_, ?_, frame _ (takeDisposition_frame s _ _ _ _)⟩ <;>
      rw [sampleDone_eq, takeDisposition_unplaced past]
    · rw [setEvaluator_record, updRecord_record_same]
    · rfl
    · rfl
  · rw [← sampleDone_eq]
    refine exec_disposition_dropped he hc hp fun ⟨live, found⟩ => ?_
    rcases lost with st | st | other
    · exact not_live_iff.mpr (.inl st) live
    · exact not_live_iff.mpr (.inr st) live
    · exact other found

/-- Settles O31: the sums, bounds and times of a credit that is taken, its end at target and its trail record; one held
back; one dropped. -/
theorem creditAccumulates : Obligations.CreditAccumulates := by
  intro s e c x time k r he hc hp hr
  subst hr
  refine ⟨fun st found room => ?_, fun st found fault below full => ?_, fun lost => ?_⟩
  · have taken := exec_credit_taken he hc hp st found fun w => by
      obtain ⟨fault, below, full⟩ := trailWaits_iff.mp w
      rcases room with fault' | past | room
      · exact Bool.false_ne_true (fault.symm.trans fault')
      · exact Nat.not_lt.mpr past below
      · exact Nat.not_le.mpr room full
    obtain ⟨acc, next, overflow⟩ := takeCredit_record (s := s) (h := e.head) (x := x) (time := time) k
    have queue := takeCredit_queue (s := s) (h := e.head) (x := x) (time := time) k
    rw [sampleDone_eq] at taken
    refine ⟨_, taken, ?_⟩
    simp only [setEvaluator_record, setEvaluator_calSet, setEvaluator_cal, setEvaluator_occ, acc, next, overflow, queue]
    refine ⟨rfl, rfl, rfl, rfl, rfl, rfl, rfl, fun first => ?_, fun later => ?_, fun full => ?_, fun more => ?_, rfl,
      fun fault below => ?_, fun past => ?_, fun i n => takeCredit_record_ne n,
      (takeCredit_frame s e.head x time k).andThen (setEvaluator_frame _ _) (by decide)⟩
    · exact ⟨if_pos first, if_pos first, if_pos first⟩
    · exact ⟨if_neg later, if_neg later, if_neg later⟩
    · rw [takeCredit_completes full]
      obtain ⟨n, o, same⟩ := credited_record (s := s) (h := e.head) (x := x) (time := time) k
      have cal := (credited_frame (s := s) (h := e.head) (x := x) (time := time) k).cal (by decide)
      have released := endOccupation_calSet (s.credited e.head x time k) e.head .complete
      rw [same] at released
      refine ⟨by rw [endOccupation_record], by rw [endOccupation_record], (congrArg CalSet.use released).trans ?_⟩
      simp only [State.calSet, cal]
    · rw [takeCredit_continues more]
      obtain ⟨n, o, same⟩ := credited_record (s := s) (h := e.head) (x := x) (time := time) k
      exact ⟨by rw [same]; exact st, (credited_frame k).cal (by decide)⟩
    · rw [credited_placed fault below, enqueue_record, updRecord_record_same]
      exact ⟨rfl, rfl, rfl⟩
    · rw [credited_unplaced past, updRecord_record_same]
      exact ⟨rfl, rfl, rfl⟩
  · exact exec_credit_held he hc hp st found (trailWaits_iff.mpr ⟨fault, below, full⟩)
  · rw [← sampleDone_eq]
    exact exec_credit_dropped he hc hp fun ⟨st, found⟩ => lost.elim (· st) (· found)

end Sys2Proof.Machine
end

-- ==== Proofs of the family "station occupations": CANCEL and HEAD_RESET at the record (O49, O51) ====
section

namespace Sys2Proof.Machine

section

variable {s : State} {h : Head}

/-! ### The record that an order names (R19, R172) -/

theorem mem_headIds (h : Head) : h ∈ headIds := by
  revert h
  decide

theorem holderOf_eq_some {a : Nat} (live : (s.record h).state ≠ .idle) (sheet : (s.record h).sheet.toNat = a)
    (only : ∀ i, i ≠ h → (s.record i).state = .idle ∨ (s.record i).sheet.toNat ≠ a) : s.holderOf a = some h := by
  cases found : s.holderOf a with
  | none =>
    have none := List.find?_eq_none.mp found h (mem_headIds h)
    exact absurd (decide_eq_true ⟨live, sheet⟩) none
  | some i =>
    unfold State.holderOf at found
    have holder := List.find?_some found
    obtain ⟨holds, sheet'⟩ := of_decide_eq_true holder
    by_cases same : i = h
    · rw [same]
    · exact ((only i same).elim holds (absurd sheet')).elim

theorem holderOf_eq_none {a : Nat} (no : ∀ i, (s.record i).state = .idle ∨ (s.record i).sheet.toNat ≠ a) :
    s.holderOf a = none :=
  List.find?_eq_none.mpr fun i _ holds => (no i).elim (of_decide_eq_true holds).1 (absurd (of_decide_eq_true holds).2)

theorem headOfArg_ofNat (h : Head) : headOfArg (BitVec.ofNat 64 h.val) = h := by
  revert h
  decide

/-! ### The parts of a head reset (R69, R134, R172) -/

theorem resetPart_order (a b c : Bool) : (s.resetPart a b c).order =
    if a && b && c then { s.order with status := some .done, reason := .none, stage := .answerWord }
    else { s.order with stage := .acting (.resetting a b c) } := by
  unfold State.resetPart
  split <;> rfl

theorem linkDown_unpresented : s.linkDown h false = ((s.updLink h fun l =>
    { l with judge := .down, goodRun := 0, badRun := 0, silenceTimer := none, expected := none }).raise
      .link).updDownMsgs h (· + 1) := rfl

theorem betweenSamples_of {s : State} (between : ∀ e, s.corr.evaluator = some e → e.phase = .between) :
    s.betweenSamples = true := by
  unfold State.betweenSamples
  split
  · rfl
  · exact decide_eq_true (between _ (by assumption))

theorem judgeClear_of_settled (j : (s.headState h).judge = .settled) :
    s.judgeClear h = ((s.updHead h clearedJudge).raise .settle).presentJudge h .unsettled := if_pos j

theorem judgeClear_of_unsettled (j : (s.headState h).judge = .unsettled) :
    s.judgeClear h = s.updHead h clearedJudge := if_neg (by rw [j]; decide)

theorem judgeClear_headState : (s.judgeClear h).headState h = clearedJudge (s.headState h) := by
  unfold State.judgeClear
  split
  · exact updHead_headState_same s h clearedJudge
  · exact updHead_headState_same s h clearedJudge

theorem judgeClear_evaluator : (s.judgeClear h).corr.evaluator = s.corr.evaluator := by
  unfold State.judgeClear
  split <;> rfl

theorem abandonFrame_headState (i : Head) : (s.abandonFrame h).headState i = s.headState i := by
  unfold State.abandonFrame
  split
  · rfl
  · split <;> rfl

theorem abandonFrame_evaluator {e : Evaluator} (he : s.corr.evaluator = some e) :
    (s.abandonFrame h).corr.evaluator = if e.head = h then none else some e := by
  unfold State.abandonFrame
  rw [he]
  dsimp only
  split
  · rfl
  · exact he

/-- An interruption of this record waits (R172). -/
theorem interruptionWaits_iff : s.interruptionWaits h = true ↔
    (s.record h).state = .acquiring ∧ .unsettled ∈ (s.inbox h).judgeMsgs := by
  simp [State.interruptionWaits]

end

/-- Settles O49: the record that holds the sheet, live or WRITING, or none. -/
theorem cancelAtTheOccupationController : Obligations.CancelAtTheOccupationController := by
  intro s stage code
  have presented : s.orderPresented 6 = true := decide_eq_true ⟨stage, code⟩
  refine ⟨fun h live sheet only => ?_, fun no => ?_⟩
  · have holder := holderOf_eq_some live sheet only
    refine ⟨fun st => ?_, fun st => ?_⟩
    · have running : (s.record h).state.live = true := by
        by_contra dead
        exact (not_live_iff.mp dead).elim live st
      have taken : exec .cancel s = .next (s.endOccupation h .cancelled).orderDone := by
        simp only [exec, execCancel, presented, holder, running, if_true]
      refine ⟨_, taken, ?_, ?_, endOccupation_queue s h _, fun i n => endOccupation_record_ne s h i _ n, rfl,
        (endOccupation_frame s h _).andThen (orderDone_frame _) (by decide)⟩
      · exact congrArg OccRecord.state (endOccupation_record s h .cancelled)
      · exact congrArg OccRecord.outcome (endOccupation_record s h .cancelled)
    · simp only [exec, execCancel, presented, holder, st, OccState.live, if_true, Bool.false_eq_true, if_false]
      rfl
  · simp only [exec, execCancel, presented, holderOf_eq_none no, if_true]
    rfl

/-- Settles O51: the order is presented; the link part, with the judge up or down; the judge part, with the judge settled
or not; the record part, held while an interruption waits. -/
theorem headResetInThreeParts : Obligations.HeadResetInThreeParts := by
  intro h s after arg0 hafter
  have head : headOfArg s.order.arg0 = h := by rw [arg0, headOfArg_ofNat]
  have order {t : State} (a b c : Bool) (same : t.order = s.order) : (t.resetPart a b c).order = after a b c := by
    rw [resetPart_order, same, hafter]
  refine ⟨fun stage code => ?_, fun b c stage => ?_, fun a c stage between => ?_, fun a stage st waits => ?_,
    fun a b stage free => ?_⟩
  · have presented : s.orderPresented 8 = true := decide_eq_true ⟨stage, code⟩
    simp only [exec, execHeadReset, presented, if_true, hafter]
    rfl
  · have taken : exec .headResetLinkPart s =
        .next ((State.updLink h (fun l => { restartedLink l with counters := {} })
          (if (s.link h).judge = .up then s.linkDown h false else s)).resetPart true b c) := by
      simp only [exec, execHeadResetLinkPart, stage, head]
    cases j : (s.link h).judge with
    | up =>
      rw [j, if_pos rfl, linkDown_unpresented] at taken
      set u := ((s.updLink h fun l =>
        { l with judge := .down, goodRun := 0, badRun := 0, silenceTimer := none, expected := none }).raise
          .link).updDownMsgs h (· + 1) with hu
      have downed : u.link h = { s.link h with
          judge := .down, goodRun := 0, badRun := 0, silenceTimer := none, expected := none } := by
        rw [hu, updDownMsgs_link, raise_link, updLink_link_same]
      have frame : unchangedBut [.links, .corr, .ctrl] s u :=
        ((updLink_frame s h _).andThen (raise_frame _ .link) (fun _ m => m)).andThen (updDownMsgs_frame _ h (· + 1))
          (by decide)
      have reset := resetPart_frame (u.updLink h fun l => { restartedLink l with counters := {} }) true b c
      refine ⟨_, taken, ?_, fun _ => ⟨reset.ctrl (by decide), reset.corr (by decide)⟩, nofun, order _ _ _ rfl,
        (frame.andThen (updLink_frame u h _) (fun _ m => m)).andThen reset (by decide)⟩
      unfold State.link
      rw [reset.links (by decide)]
      refine (updLink_link_same u h _).trans ?_
      rw [downed]
      rfl
    | down =>
      rw [j, if_neg (by decide)] at taken
      have reset := resetPart_frame (s.updLink h fun l => { restartedLink l with counters := {} }) true b c
      refine ⟨_, taken, ?_, nofun, fun _ => ⟨reset.ctrl (by decide), reset.corr (by decide)⟩, order _ _ _ rfl,
        (updLink_frame s h _).andThen reset (by decide)⟩
      unfold State.link
      rw [reset.links (by decide)]
      exact updLink_link_same s h _
  · have taken : exec .headResetJudgePart s =
        .next ((((s.judgeClear h).updHead h forgottenHead).abandonFrame h).resetPart a true c) := by
      simp only [exec, execHeadResetJudgePart, stage, betweenSamples_of between, head, if_true]
    set v := (s.judgeClear h).updHead h forgottenHead with hv
    have abandoned := abandonFrame_frame v h
    have reset := resetPart_frame (v.abandonFrame h) a true c
    have rest := abandoned.andThen reset (cs := [.corr, .order]) (by decide)
    have messages : inboxesOnly s ((v.abandonFrame h).resetPart a true c) :=
      (judgeClear_inboxesOnly s h).andThen (inboxesOnly_of_occ (rest.occ (by decide)))
    have frame := ((judgeClear_frame s h).andThen (updHead_frame _ h forgottenHead) (fun _ m => m)).andThen rest
      (cs := [.corr, .occ, .ctrl, .order]) (by decide)
    refine ⟨_, taken, ?_, fun e he => ?_, fun j => ?_, fun j => ?_, messages.record, order _ _ _ ?_, frame⟩
    · have forgotten : v.headState h = forgottenHead (clearedJudge (s.headState h)) := by
        rw [hv, updHead_headState_same, judgeClear_headState]
      unfold State.headState
      rw [reset.corr (by decide)]
      exact (abandonFrame_headState h).trans forgotten
    · rw [reset.corr (by decide)]
      exact abandonFrame_evaluator (judgeClear_evaluator.trans he)
    · have cleared := judgeClear_of_settled j
      have occ : v.occ = (s.judgeClear h).occ := rfl
      refine ⟨(rest.ctrl (by decide)).trans ?_, ?_⟩
      · rw [hv, cleared]
        rfl
      · unfold State.inbox
        rw [rest.occ (by decide), occ, cleared]
        exact updInbox_inbox_same ((s.updHead h clearedJudge).raise .settle) h _
    · have cleared := judgeClear_of_unsettled j
      refine ⟨(rest.ctrl (by decide)).trans ?_, (rest.occ (by decide)).trans ?_⟩ <;> rw [hv, cleared] <;> rfl
    · exact (abandoned.order (by decide)).trans ((judgeClear_frame s h).order (by decide))
  · have held : s.interruptionWaits h = true := interruptionWaits_iff.mpr ⟨st, waits⟩
    simp only [exec, execHeadResetRecordPart, stage, head, held, Bool.and_self, if_true]
  · have free' : (b && s.interruptionWaits h) = false := by
      rw [Bool.and_eq_false_iff, ← Bool.not_eq_true (s.interruptionWaits h), interruptionWaits_iff, not_and_or]
      exact free
    have taken : exec .headResetRecordPart s =
        .next ((if (s.record h).state.live then s.endOccupation h .headReset else s).resetPart a b true) := by
      simp only [exec, execHeadResetRecordPart, stage, head, free', Bool.false_eq_true, if_false]
    by_cases live : (s.record h).state.live = true
    · rw [if_pos live] at taken
      have reset := resetPart_frame (s.endOccupation h .headReset) a b true
      have occ := reset.occ (by decide)
      have ended : ((s.endOccupation h .headReset).resetPart a b true).record h =
          (s.endOccupation h .headReset).record h := congrArg (fun o : OccupationController => o.records[h]) occ
      rw [endOccupation_record] at ended
      refine ⟨_, taken, fun _ => ⟨by rw [ended], by rw [ended], ?_⟩, fun dead => ?_, order _ _ _ rfl,
        (endOccupation_frame s h _).andThen reset (by decide)⟩
      · rw [occ, endOccupation_queue]
      · exact absurd live (not_live_iff.mpr dead)
    · rw [if_neg live] at taken
      have reset := resetPart_frame s a b true
      exact ⟨_, taken, fun running => absurd (live_iff.mpr running) live,
        fun _ => ⟨reset.occ (by decide), reset.cal (by decide)⟩, order _ _ _ rfl, reset.widen (by decide)⟩

end Sys2Proof.Machine
end

-- ==== Proofs of the family "station occupations": joins (O35, O36, O37) ====
section

namespace Sys2Proof.Machine

/-! ### Usable joins (R26, R36) -/

section

variable {r : OccRecord}

theorem joinUsable_of {o : OccOutcome} (passed : r.joinFailed = false) (ho : r.outcome = some o)
    (ok : o = .complete ∨ o = .timed) : joinUsable r = true := by
  rcases ok with rfl | rfl <;> simp [joinUsable, passed, ho, OccOutcome.usable]

theorem not_joinUsable_of_failed (failed : r.joinFailed = true) : joinUsable r = false := by
  simp [joinUsable, failed]

theorem not_joinUsable_of {o : OccOutcome} (ho : r.outcome = some o)
    (bad : r.joinFailed = true ∨ o ≠ .complete ∧ o ≠ .timed) : joinUsable r = false := by
  rcases bad with failed | ⟨complete, timed⟩
  · exact not_joinUsable_of_failed failed
  · cases o <;> simp_all [joinUsable, OccOutcome.usable]

end

/-! ### The record's part of a join (R26, R27) -/

section

variable {s v : State} {h : Head} {a : DriftAnswer}

theorem joinAnswered_of_failed (failed : (v.record h).joinFailed = true) : v.joinAnswered h a = v.recordIdle h :=
  if_pos failed

theorem joinAnswered_of_passed (passed : (v.record h).joinFailed = false) : v.joinAnswered h a =
    (v.updRecord h fun r => { r with answer := a, step := some .drift }).enqueue (.drift h) :=
  if_neg (by simp [passed])

/-- The Drift Unit's part of a join leaves the records. -/
theorem record_of_frame (part : unchangedBut [.drift, .ctrl] s v) (i : Head) : v.record i = s.record i :=
  congrArg (fun o : OccupationController => o.records[i]) (part.occ (by decide))

/-- A failed join, after a Drift Unit's part that has raised `es`, makes the record IDLE and is told to the Sheet Walker
and the Control Port. -/
theorem joinAnswered_failed {es : List Event} (part : unchangedBut [.drift, .ctrl] s v)
    (hc : v.ctrl = { s.ctrl with raised := s.ctrl.raised ++ es }) (failed : (s.record h).joinFailed = true) :
    (v.joinAnswered h a).record h = { s.record h with state := .idle, step := none } ∧
      (v.joinAnswered h a).occ.queue = s.occ.queue ∧ (∀ i, i ≠ h → (v.joinAnswered h a).record i = s.record i) ∧
      stopTested es s (v.joinAnswered h a) ∧ busyLaneFlagged h.castSucc s (v.joinAnswered h a) := by
  have record := record_of_frame part
  have queue : v.occ.queue = s.occ.queue := by rw [part.occ (by decide)]
  rw [joinAnswered_of_failed (by rw [record h, failed])]
  refine ⟨?_, ?_, fun i n => ?_, recordIdle_told s h (part.walker (by decide)) hc⟩
  · rw [recordIdle_record, record h]
  · rw [recordIdle_occ]
    exact queue
  · rw [recordIdle_record_ne _ _ _ n, record i]

/-- A join that has not failed gives the record its answer and queues the drift write. -/
theorem joinAnswered_passed (part : unchangedBut [.drift, .ctrl] s v) (passed : (s.record h).joinFailed = false) :
    ((v.joinAnswered h a).record h).answer = a ∧ ((v.joinAnswered h a).record h).step = some .drift ∧
      (v.joinAnswered h a).occ.queue = s.occ.queue ++ [.drift h] ∧ (v.joinAnswered h a).ctrl = v.ctrl ∧
      unchangedBut [.occ] v (v.joinAnswered h a) := by
  have queue : v.occ.queue = s.occ.queue := by rw [part.occ (by decide)]
  rw [joinAnswered_of_passed (by rw [record_of_frame part, passed])]
  refine ⟨?_, ?_, ?_, rfl, (updRecord_frame v h _).andThen (enqueue_frame _ _) (by decide)⟩
  · rw [enqueue_record, updRecord_record_same]
  · rw [enqueue_record, updRecord_record_same]
  · exact congrArg (· ++ [QueueEntry.drift h]) queue

theorem joinAnswered_drift : (v.joinAnswered h a).drift = v.drift :=
  (joinAnswered_frame v h a).drift (by decide)

theorem joinAnswered_loopAt (l : LoopId) : (v.joinAnswered h a).loopAt l = v.loopAt l :=
  congrArg (fun d : DriftUnit => d.loops[l]) joinAnswered_drift

end

/-! ### The Drift Unit's part, row by row (R36 to R43) -/

section

variable {s : State} {h : Head} {l : LoopId} {r : OccRecord}

theorem joinOf_none (hl : r.loopId = none) : s.joinOf h r = (s, finalAnswer .none r.loopGen) := by
  simp only [State.joinOf, hl]

theorem joinOf_station (hl : r.loopId = some l) (role : r.role = .station) :
    s.joinOf h r = s.joinStation h l r := by simp only [State.joinOf, hl, role]

theorem joinOf_open (hl : r.loopId = some l) (role : r.role = .baseOpen) :
    s.joinOf h r = s.joinOpen l r := by simp only [State.joinOf, hl, role]

theorem joinOf_close (hl : r.loopId = some l) (role : r.role = .baseClose ∨ r.role = .baseTurn) :
    s.joinOf h r = s.joinClose (decide (r.role = .baseTurn)) l r := by
  rcases role with role | role <;> simp [State.joinOf, hl, role]

theorem joinStation_unusable (bad : joinUsable r = false) :
    s.joinStation h l r = (s, finalAnswer .notUsable r.loopGen) := if_pos bad

theorem joinStation_stale (good : joinUsable r = true) (stale : (s.loopAt l).generation ≠ r.loopGen) :
    s.joinStation h l r = (s, finalAnswer .staleLoop r.loopGen) := by
  simp [State.joinStation, good, stale]

theorem joinStation_noLoop (good : joinUsable r = true) (gen : (s.loopAt l).generation = r.loopGen)
    (free : (s.loopAt l).state = .free) : s.joinStation h l r = (s, finalAnswer .noLoop r.loopGen) := by
  simp [State.joinStation, good, gen, free]

theorem poolFree_eq_zero : s.poolFree = 0 ↔ 64 ≤ s.poolUsed := Nat.sub_eq_zero_iff_le

theorem joinStation_full (good : joinUsable r = true) (gen : (s.loopAt l).generation = r.loopGen)
    (taken : (s.loopAt l).state ≠ .free) (full : 64 ≤ s.poolUsed) :
    s.joinStation h l r = (s.raise .pool, finalAnswer .poolFull r.loopGen) := by
  simp [State.joinStation, good, gen, taken, poolFree_eq_zero.mpr full]

theorem joinStation_pending (good : joinUsable r = true) (gen : (s.loopAt l).generation = r.loopGen)
    (taken : (s.loopAt l).state ≠ .free) (room : s.poolUsed < 64) : s.joinStation h l r =
      (s.updLoop l fun x => { x with pending := x.pending ++ [reservedEntry h r] }, pendingAnswer r.loopGen) := by
  have space : ¬ s.poolFree = 0 := fun e => Nat.not_le.mpr room (poolFree_eq_zero.mp e)
  simp [State.joinStation, good, gen, taken, space]

/-- A loop reopened within its span (R43). -/
theorem reopenLoop_within (within : s.now < s.spanExpiryAt (s.loopAt l).openElapsed) : s.reopenLoop l =
    (s.updLoop l fun x =>
      { x with state := .opened, spanTimer := some (s.spanExpiryAt (s.loopAt l).openElapsed) }).raise .loop :=
  if_neg (Nat.not_le.mpr within)

/-- A loop reopened past its span expires at once: two changes of its state (R43, log 25). -/
theorem reopenLoop_past (past : s.spanExpiryAt (s.loopAt l).openElapsed ≤ s.now) : s.reopenLoop l =
    ((s.updLoop l fun x => { x with state := .opened }).raise .loop).expireLoop l := if_pos past

end

/-- Settles O35: the failed join, the join with no loop, and the rows of the table in their order. -/
theorem stationJoinTable : Obligations.StationJoinTable := by
  intro h s r answered hr writing step report role
  subst hr
  have taken := exec_join writing step report
  refine ⟨fun failed => ?_, fun passed hanswered => ⟨fun hl => ?_, fun l o hl ho => ?_⟩⟩
  · have part : (s.joinOf h (s.record h)).1 = s := by
      cases hl : (s.record h).loopId with
      | none => rw [joinOf_none hl]
      | some l => rw [joinOf_station hl role, joinStation_unusable (not_joinUsable_of_failed failed)]
    rw [part] at taken
    obtain ⟨record, queue, others, told⟩ := joinAnswered_failed (a := (s.joinOf h (s.record h)).2) (es := [])
      (unchangedBut_self _ s) (by simp) failed
    exact ⟨_, taken, record, queue, others, told.1, told.2, joinAnswered_frame s h _⟩
  · rw [taken, joinOf_none hl, hanswered]
    exact congrArg Host.Outcome.next (joinAnswered_of_passed passed)
  · have row {u : State} {a : DriftAnswer} (e : s.joinStation h l (s.record h) = (u, a))
        (same : u.record h = s.record h) : exec (.join h) s = .next (answered u a) := by
      rw [taken, joinOf_station hl role, e, hanswered]
      exact congrArg Host.Outcome.next (joinAnswered_of_passed (by rw [same, passed]))
    refine ⟨fun complete timed => ?_, fun ok stale => ?_, fun ok gen free => ?_, fun ok gen taken full => ?_,
      fun ok gen taken room => ?_⟩
    · exact row (joinStation_unusable (not_joinUsable_of ho (.inr ⟨complete, timed⟩))) rfl
    · exact row (joinStation_stale (joinUsable_of passed ho ok) stale) rfl
    · exact row (joinStation_noLoop (joinUsable_of passed ho ok) gen free) rfl
    · exact row (joinStation_full (joinUsable_of passed ho ok) gen taken full) rfl
    · exact row (joinStation_pending (joinUsable_of passed ho ok) gen taken room) (updLoop_record s l _ h)

/-- Settles O36: the loop anchored, or freed with its list detached. -/
theorem baseOpenCompletes : Obligations.BaseOpenCompletes := by
  intro h l s r o hr writing step report role hl ho
  subst hr
  have taken := exec_join writing step report
  rw [joinOf_open hl role] at taken
  refine ⟨fun passed ok => ?_, fun bad => ?_⟩
  · set anchored := s.anchoredLoop (meanOf (s.record h).acc.sum (s.record h).acc.accepted)
      (midTimeOf (s.record h).acc) (givenBaseRef (s.record h)) with hanchored
    have part : unchangedBut [.drift, .ctrl] s ((s.updLoop l anchored).raise .loop) :=
      (updLoop_frame s l anchored).andThen (raise_frame _ .loop) (by decide)
    have anchors : s.joinOpen l (s.record h) = ((s.updLoop l anchored).raise .loop,
        baseAnswer 0 (givenBaseRef (s.record h)) 0 (s.record h).loopGen) := if_pos (joinUsable_of passed ho ok)
    rw [anchors] at taken
    obtain ⟨answer, next, queue, ctrl, frame⟩ := joinAnswered_passed (h := h)
      (a := baseAnswer 0 (givenBaseRef (s.record h)) 0 (s.record h).loopGen) part passed
    refine ⟨_, taken, ?_, fun i n => ?_, ?_, answer, next, queue, ctrl, part.andThen frame (by decide)⟩
    · rw [joinAnswered_loopAt, raise_loopAt, updLoop_loopAt_same, hanchored]
      rfl
    · rw [joinAnswered_loopAt, raise_loopAt, updLoop_loopAt_ne _ _ _ _ n]
    · rw [joinAnswered_drift]
      rfl
  · have frees : s.joinOpen l (s.record h) =
        (s.detachLoop l .noLoop freedLoop, finalAnswer .notUsable (s.record h).loopGen) :=
      if_neg (by rw [not_joinUsable_of ho bad]; decide)
    rw [frees] at taken
    have part := detachLoop_frame s l .noLoop freedLoop
    refine ⟨_, taken, ?_, fun i n => ?_, ?_, fun passed => ?_, fun failed => ?_,
      part.andThen (joinAnswered_frame _ h _) (by decide)⟩
    · rw [joinAnswered_loopAt, detachLoop_loopAt]
      rfl
    · rw [joinAnswered_loopAt, detachLoop_loopAt_ne _ _ _ _ _ n]
    · rw [joinAnswered_drift, detachLoop_batches]
    · obtain ⟨answer, _, _, ctrl, frame⟩ := joinAnswered_passed (h := h)
        (a := finalAnswer .notUsable (s.record h).loopGen) part passed
      exact ⟨answer, ctrl.trans (detachLoop_ctrl s l _ _),
        (frame.walker (by decide)).trans (part.walker (by decide))⟩
    · obtain ⟨record, _, _, told⟩ := joinAnswered_failed (h := h)
        (a := finalAnswer .notUsable (s.record h).loopGen) part (detachLoop_ctrl s l _ _) failed
      exact ⟨record, told⟩

/-- Settles O37: the loop closed or turned; reopened within its span; expired past it. -/
theorem baseCloseCompletes : Obligations.BaseCloseCompletes := by
  intro h l s r o x hr writing step report role hl ho hx
  subst hr hx
  have taken := exec_join writing step report
  rw [joinOf_close hl role] at taken
  refine ⟨fun passed ok => ?_, fun bad => ?_⟩
  · set becomes := if decide ((s.record h).role = .baseTurn) then s.turnedLoop (s.record h) else freedLoop
      with hbecomes
    set answer := baseAnswer (meanOf (s.record h).acc.sum (s.record h).acc.accepted - (s.loopAt l).openValue)
      (s.loopAt l).baseRef (midTimeOf (s.record h).acc) (s.record h).loopGen with hanswer
    have closes : s.joinClose (decide ((s.record h).role = .baseTurn)) l (s.record h) =
        (s.detachLoop l (closedKind (s.record h) (s.loopAt l)) becomes, answer) :=
      if_pos (joinUsable_of passed ho ok)
    rw [closes] at taken
    have part := detachLoop_frame s l (closedKind (s.record h) (s.loopAt l)) becomes
    obtain ⟨given, _, _, ctrl, frame⟩ := joinAnswered_passed (h := h) (a := answer) part passed
    refine ⟨_, taken, fun close => ?_, fun turn => ?_, ?_, given, ctrl.trans (detachLoop_ctrl s l _ _),
      fun i n => ?_, part.andThen frame (by decide)⟩
    · rw [joinAnswered_loopAt, detachLoop_loopAt, hbecomes, close]
      rfl
    · rw [joinAnswered_loopAt, detachLoop_loopAt, hbecomes, turn]
      rfl
    · rw [joinAnswered_drift, detachLoop_batches]
      rfl
    · rw [joinAnswered_loopAt, detachLoop_loopAt_ne _ _ _ _ _ n]
  · have reopens : s.joinClose (decide ((s.record h).role = .baseTurn)) l (s.record h) =
        (s.reopenLoop l, finalAnswer .notUsable (s.record h).loopGen) :=
      if_neg (by rw [not_joinUsable_of ho bad]; decide)
    rw [reopens] at taken
    have part := reopenLoop_frame s l
    have answered (passed : (s.record h).joinFailed = false) :
        (((s.reopenLoop l).joinAnswered h (finalAnswer .notUsable (s.record h).loopGen)).record h).answer =
          finalAnswer .notUsable (s.record h).loopGen ∧
        ((s.reopenLoop l).joinAnswered h (finalAnswer .notUsable (s.record h).loopGen)).walker = s.walker := by
      obtain ⟨given, _, _, _, rest⟩ := joinAnswered_passed (h := h)
        (a := finalAnswer .notUsable (s.record h).loopGen) part passed
      exact ⟨given, (rest.walker (by decide)).trans (part.walker (by decide))⟩
    have control {es : List Event} (hc : (s.reopenLoop l).ctrl = { s.ctrl with raised := s.ctrl.raised ++ es })
        (passed : (s.record h).joinFailed = false) :
        ((s.reopenLoop l).joinAnswered h (finalAnswer .notUsable (s.record h).loopGen)).ctrl =
          { s.ctrl with raised := s.ctrl.raised ++ es } := by
      obtain ⟨_, _, _, same, _⟩ := joinAnswered_passed (h := h)
        (a := finalAnswer .notUsable (s.record h).loopGen) part passed
      exact same.trans hc
    have failing {es : List Event} (hc : (s.reopenLoop l).ctrl = { s.ctrl with raised := s.ctrl.raised ++ es }) :=
      joinAnswered_failed (h := h) (a := finalAnswer .notUsable (s.record h).loopGen) part hc
    have frame := part.andThen (joinAnswered_frame _ h (finalAnswer .notUsable (s.record h).loopGen))
      (cs := [.occ, .drift, .walker, .ctrl]) (by decide)
    by_cases within : s.ctrl.elapsed.toNat < (s.loopAt l).openElapsed + s.drift.spanLimit * 60000
    · have e := reopenLoop_within (s := s) (l := l) within
      have ctrl : (s.reopenLoop l).ctrl = { s.ctrl with raised := s.ctrl.raised ++ [.loop] } := by rw [e]; rfl
      refine ⟨_, taken, fun _ => ⟨?_, ?_, control ctrl⟩,
        fun past => absurd within (Nat.not_lt.mpr past), answered,
        fun failed => ?_, fun i n => ?_, frame⟩
      · rw [joinAnswered_loopAt, e, raise_loopAt, updLoop_loopAt_same]
        rfl
      · rw [joinAnswered_drift, e]
        rfl
      · rw [if_pos within]
        obtain ⟨record, _, _, told⟩ := failing ctrl failed
        exact ⟨record, told⟩
      · rw [joinAnswered_loopAt, e, raise_loopAt, updLoop_loopAt_ne _ _ _ _ n]
    · have e := reopenLoop_past (s := s) (l := l) (Nat.not_lt.mp within)
      have ctrl : (s.reopenLoop l).ctrl = { s.ctrl with raised := s.ctrl.raised ++ [.loop, .loop] } := by
        rw [e, State.expireLoop, detachLoop_ctrl]
        simp [State.raise]
      refine ⟨_, taken, fun within' => absurd within' within, fun _ =>
        ⟨?_, ?_, control ctrl⟩, answered,
        fun failed => ?_, fun i n => ?_, frame⟩
      · rw [joinAnswered_loopAt, e, State.expireLoop, detachLoop_loopAt, raise_loopAt, updLoop_loopAt_same]
        rfl
      · rw [joinAnswered_drift, e, State.expireLoop, detachLoop_batches, raise_loopAt, updLoop_loopAt_same]
        rfl
      · rw [if_neg within]
        obtain ⟨record, _, _, told⟩ := failing ctrl failed
        exact ⟨record, told⟩
      · rw [joinAnswered_loopAt, e, State.expireLoop, detachLoop_loopAt_ne _ _ _ _ _ n, raise_loopAt,
          updLoop_loopAt_ne _ _ _ _ n]

end Sys2Proof.Machine
end

-- ==== Proofs of the family "station occupations": the writes of an occupation answered (O13) ====
section

namespace Sys2Proof.Machine

/-- Freeing a slot touches the Memory Port alone. -/
theorem freed_frame (r : Requester) (s : State) : unchangedBut [.port] s (s.freed r) :=
  (setGrant_frame s none).andThen (setSlot_frame _ r none) (by decide)

/-! ### An answered write, by the entry that was issued (R23, R27, R28, R196) -/

section

variable {s : State} {h : Head} {n : BitVec 32}

theorem occOkay_trail (hi : s.occ.issued = some (.trail h n)) (same : (s.record h).takeNo = n) :
    s.occOkay = (s.setIssued none).updRecord h fun r => { r with trailCount := r.trailCount + 1 } := by
  simp only [State.occOkay, hi, same, if_true]

theorem occOkay_trail_past (hi : s.occ.issued = some (.trail h n)) (past : (s.record h).takeNo ≠ n) :
    s.occOkay = s.setIssued none := by
  simp only [State.occOkay, hi, past, if_false]

theorem occOkay_resultAnswer (hi : s.occ.issued = some (.resultAnswer h)) : s.occOkay =
    (s.setIssued (some (.resultBody h))).present .occupationController (resultBodyAccess (s.record h)) := by
  simp only [State.occOkay, hi]

theorem occOkay_resultBody (hi : s.occ.issued = some (.resultBody h)) :
    s.occOkay = (s.setIssued none).updRecord h fun r => { r with step := some .join } := by
  simp only [State.occOkay, hi]

theorem occOkay_drift (hi : s.occ.issued = some (.drift h)) : s.occOkay =
    ((s.setIssued none).updRecord h fun r => { r with step := some .state }).enqueue (.stateWord h) := by
  simp only [State.occOkay, hi]

theorem occOkay_stateWord (hi : s.occ.issued = some (.stateWord h)) : s.occOkay =
    (((s.setIssued none).reportIfProvisional h (landingOf (s.record h))).raise .sheet).recordIdle h := by
  simp only [State.occOkay, hi]

/-! ### A faulted write (R24, R26, R28) -/

theorem occFault_trail (hi : s.occ.issued = some (.trail h n)) (same : (s.record h).takeNo = n) :
    s.occFault = ((s.setIssued none).updRecord h fun r => { r with trailFault := true }).purgeTrails := by
  simp only [State.occFault, hi, same, if_true]

theorem occFault_trail_past (hi : s.occ.issued = some (.trail h n)) (past : (s.record h).takeNo ≠ n) :
    s.occFault = s.setIssued none := by
  simp only [State.occFault, hi, past, if_false]

theorem occFault_result (hi : s.occ.issued = some (.resultAnswer h) ∨ s.occ.issued = some (.resultBody h)) :
    s.occFault = (s.setIssued none).updRecord h fun r => { r with step := some .join, joinFailed := true } := by
  rcases hi with hi | hi <;> simp only [State.occFault, hi]

theorem occFault_drift (hi : s.occ.issued = some (.drift h) ∨ s.occ.issued = some (.stateWord h)) :
    s.occFault = ((s.setIssued none).reportIfProvisional h .failure).recordIdle h := by
  rcases hi with hi | hi <;> simp only [State.occFault, hi]

/-- With its trail faulted, a record's trail records are all purged (R24). -/
theorem purgeTrails_faulted (fault : (s.record h).trailFault = true) (n : BitVec 32) (a : Nat) (x : TrailRecord) :
    QueueEntry.trail h n a x ∉ s.purgeTrails.occ.queue := by
  intro queued
  have stands : s.trailStands (.trail h n a x) = true := (List.mem_filter.mp queued).2
  simp [State.trailStands, fault] at stands

theorem occFault_trail_frame (hi : s.occ.issued = some (.trail h n)) : unchangedBut [.occ] s s.occFault := by
  by_cases same : (s.record h).takeNo = n
  · rw [occFault_trail hi same]
    exact ((setIssued_frame s none).andThen (updRecord_frame _ h _) (fun _ m => m)).andThen (purgeTrails_frame _)
      (by decide)
  · rw [occFault_trail_past hi same]
    exact setIssued_frame s none

theorem reportIfProvisional_drift (p : Report) : (s.reportIfProvisional h p).drift =
    if (s.record h).answer.provisional then { s.drift with reports := s.drift.reports.set h (some p) }
    else s.drift := by
  unfold State.reportIfProvisional
  split <;> rfl

/-- What is left of an event whose last act makes a record IDLE: `v` is the state before that act, in which the issued entry
is done with and `es` has been raised. -/
theorem recordIdle_after {v : State} {es : List Event} (ho : v.occ = { s.occ with issued := none })
    (hw : v.walker = s.walker) (hc : v.ctrl = { s.ctrl with raised := s.ctrl.raised ++ es }) :
    (v.recordIdle h).record h = { s.record h with state := .idle, step := none } ∧
      (v.recordIdle h).occ.issued = none ∧ (v.recordIdle h).occ.queue = s.occ.queue ∧
      (∀ i, i ≠ h → (v.recordIdle h).record i = s.record i) ∧ (v.recordIdle h).drift = v.drift ∧
      stopTested es s (v.recordIdle h) ∧ busyLaneFlagged h.castSucc s (v.recordIdle h) := by
  have record (i : Head) : v.record i = s.record i := by
    unfold State.record
    rw [ho]
  have occ : (v.recordIdle h).occ.issued = v.occ.issued ∧ (v.recordIdle h).occ.queue = v.occ.queue := by
    rw [recordIdle_occ]
    exact ⟨rfl, rfl⟩
  rw [ho] at occ
  refine ⟨?_, occ.1, occ.2, fun i n => ?_, (recordIdle_frame v h).drift (by decide), recordIdle_told s h hw hc⟩
  · rw [recordIdle_record, record]
  · rw [recordIdle_record_ne _ _ _ n, record]

end

/-- Settles O13: an answered write, entry by entry; a faulted one, entry by entry. -/
theorem occupationWritesAnswered : Obligations.OccupationWritesAnswered := by
  refine ⟨fun s u data ws h done hu => ?_, fun s k c h faulted => ?_⟩
  · subst hu
    have taken : exec (.busAnswer (.okay data)) s = .next (s.freed .occupationController).occOkay :=
      exec_okay_of_completes done
    set f := s.freed .occupationController with hf
    have free : unchangedBut [.port] s f := freed_frame .occupationController s
    have record : f.record h = s.record h := rfl
    refine ⟨fun n hi => ⟨fun same => ?_, fun past => ?_⟩, fun hi => ?_, fun hi => ?_, fun hi => ?_, fun hi => ?_⟩
    · rw [taken, occOkay_trail (s := f) hi same]
      rfl
    · rw [taken, occOkay_trail_past (s := f) hi past]
      rfl
    · rw [occOkay_resultAnswer (s := f) hi] at taken
      exact ⟨_, taken, rfl, setSlot_slot_same _ _ _,
        (free.andThen (setIssued_frame f _) (fun _ m => m)).andThen (present_frame _ _ _) (by decide)⟩
    · rw [taken, occOkay_resultBody (s := f) hi]
      rfl
    · rw [taken, occOkay_drift (s := f) hi]
      rfl
    · rw [occOkay_stateWord (s := f) hi] at taken
      have reported := reportIfProvisional_frame (f.setIssued none) h (landingOf (s.record h))
      have drift := reportIfProvisional_drift (s := f.setIssued none) (h := h) (landingOf (s.record h))
      set v := ((f.setIssued none).reportIfProvisional h (landingOf (s.record h))).raise .sheet with hv
      have ctrl : v.ctrl = { s.ctrl with raised := s.ctrl.raised ++ [.sheet] } := by
        rw [hv, State.raise, reported.ctrl (by decide)]
        rfl
      obtain ⟨idle, issued, queue, others, same, stop, flag⟩ := recordIdle_after (s := s) (h := h) (v := v)
        (reported.occ (by decide)) (reported.walker (by decide)) ctrl
      refine ⟨_, taken, idle, issued, queue, others, fun provisional => ?_, fun final => ?_, stop, flag, ?_⟩
      · exact same.trans (drift.trans (if_pos provisional))
      · exact same.trans (drift.trans (if_neg (Bool.not_eq_true _ ▸ final)))
      · rw [← occOkay_stateWord (s := f) hi]
        exact free.andThen (occOkay_frame f) (by decide)
  · obtain ⟨u, d, a, taken, lastFault, grant, slot, ctrl, part⟩ := requesterFault_of_faults faulted
    have port := (occFault_frame u).port (by decide)
    have occ : u.occ = s.occ := part.occ (by decide)
    have record : u.record h = s.record h := congrArg (fun o : OccupationController => o.records[h]) occ
    rw [← occ, ← record]
    refine ⟨u.occFault, taken, ?_, ?_, ⟨d, a, ?_⟩, fun n hi => ⟨?_, fun same => ?_, fun past => ?_, ?_⟩,
      fun hi => ?_, fun hi => ?_⟩
    · rw [port, grant]
    · unfold State.slot at slot ⊢
      rw [port, slot]
    · rw [port, lastFault]
    · exact ((occFault_trail_frame hi).ctrl (by decide)).trans ctrl
    · rw [occFault_trail hi same]
      refine ⟨?_, fun n a x => purgeTrails_faulted ?_ n a x⟩
      · rw [purgeTrails_record, updRecord_record_same, setIssued_record]
      · rw [updRecord_record_same]
    · rw [occFault_trail_past hi past]
      rfl
    · exact part.andThen (occFault_trail_frame hi) (by decide)
    · rw [occFault_result hi]
      exact ⟨updRecord_record_same (u.setIssued none) h _, rfl, ctrl,
        (part.andThen (setIssued_frame u none) (fun _ m => m)).andThen (updRecord_frame _ h _) (by decide)⟩
    · have whole := part.andThen (occFault_frame u) (cs := [.occ, .port, .drift, .walker, .ctrl]) (by decide)
      rw [occFault_drift hi] at whole ⊢
      have reported := reportIfProvisional_frame (u.setIssued none) h .failure
      have drift := reportIfProvisional_drift (s := u.setIssued none) (h := h) .failure
      have before : u.drift = s.drift := part.drift (by decide)
      set v := (u.setIssued none).reportIfProvisional h .failure
      obtain ⟨idle, _, queue, _, same, stop, flag⟩ := recordIdle_after (s := s) (h := h) (v := v)
        ((reported.occ (by decide)).trans (by rw [← occ]; rfl)) ((reported.walker (by decide)).trans
          (part.walker (by decide))) ((reported.ctrl (by decide)).trans ctrl)
      rw [record, occ]
      refine ⟨idle, queue, fun provisional => ?_, fun final => ?_, stop, flag, whole⟩
      · rw [same, drift, if_pos (by exact record ▸ provisional), ← before]
        rfl
      · rw [same, drift, if_neg (by rw [setIssued_record, record, final]; decide), ← before]
        rfl

end Sys2Proof.Machine
end

-- ==== Proofs of the family "station occupations": reset, finalization and the status block (O2, O59) ====
section

namespace Sys2Proof.Machine

/-! ### Power-on reset, part by part -/

theorem reset_record (h : Head) : State.reset.record h = {} := Vector.getElem_replicate _
theorem reset_inbox (h : Head) : State.reset.inbox h = {} := Vector.getElem_replicate _
theorem reset_headState (h : Head) : State.reset.headState h = {} := Vector.getElem_replicate _
theorem reset_link (h : Head) : State.reset.link h = {} := Vector.getElem_replicate _
theorem reset_loopAt (l : LoopId) : State.reset.loopAt l = {} := Vector.getElem_replicate _
theorem reset_calSet (c : SetId) : State.reset.calSet c = {} := Vector.getElem_replicate _
theorem reset_lane (n : Lane) : State.reset.lane n = {} := Vector.getElem_replicate _
theorem reset_slot (r : Requester) : State.reset.slot r = none := Vector.getElem_replicate _

/-- Settles O2: the tables hold their reset entry at every index, and every other field is written out in the state. -/
theorem powerOnResetState : Obligations.PowerOnResetState := by
  refine ⟨fun s => rfl, by decide, ⟨rfl, reset_slot, rfl, rfl, rfl, rfl, rfl, rfl⟩,
    fun h => ⟨reset_inbox h, reset_record h⟩, rfl, rfl, reset_loopAt, rfl, reset_headState, rfl, fun h => ?_,
    fun c => ?_, by decide, reset_lane, rfl, rfl, rfl⟩
  · rw [reset_link]
    exact ⟨rfl, rfl, rfl, rfl, rfl, rfl, rfl, rfl, rfl⟩
  · rw [reset_calSet]
    exact ⟨rfl, rfl⟩

/-! ### The writes of a finalization (R48) -/

section

variable {s : State}

theorem driftOkay_drift (hf : s.drift.finalizing = some .drift) :
    s.driftOkay = { s with drift := { s.drift with finalizing := some .stateWord } } := by
  simp only [State.driftOkay, hf]

theorem driftOkay_stateWord (hf : s.drift.finalizing = some .stateWord) :
    s.driftOkay = s.endFinalization.raise .sheet := by
  simp only [State.driftOkay, hf]

theorem driftFault_of_finalizing (hf : s.drift.finalizing ≠ none) : s.driftFault = s.endFinalization := by
  obtain ⟨w, hw⟩ := Option.ne_none_iff_exists'.mp hf
  simp only [State.driftFault, hw]

/-- A batch that is left with no entry is gone (R45, R48). -/
theorem dropFirstEntry_cons {b : Batch} {e : PoolEntry} {es : List PoolEntry} (bs : List Batch)
    (he : b.entries = e :: es) : dropFirstEntry (b :: bs) = if es = [] then bs else { b with entries := es } :: bs := by
  cases es <;> simp [dropFirstEntry, he]

theorem endFinalization_eq {b : Batch} {bs : List Batch} {e : PoolEntry} {es : List PoolEntry}
    (hb : s.drift.batches = b :: bs) (he : b.entries = e :: es) : s.endFinalization =
      { s with drift := { s.drift with
          finalizing := none, batches := if es = [] then bs else { b with entries := es } :: bs } } := by
  unfold State.endFinalization
  rw [hb, dropFirstEntry_cons bs he]

/-! ### The writes of a refresh (R193, R194) -/

theorem controlOkay_refresh (hs : s.ctrl.starting ≠ some .directory) (ws : List Word) :
    s.controlOkay ws = s.refreshOkay := by
  unfold State.controlOkay
  split
  · exact absurd (by assumption) hs
  · rfl
  · rfl

theorem controlFault_refresh (hs : s.ctrl.starting ≠ some .directory) (hr : s.ctrl.refresh ≠ none) :
    s.controlFault = s.endRefresh := by
  obtain ⟨r, hr⟩ := Option.ne_none_iff_exists'.mp hr
  unfold State.controlFault State.refreshFault
  rw [hr]
  split
  · exact absurd (by assumption) hs
  · rfl
  · rfl

theorem refreshOkay_odd (hr : s.ctrl.refresh = some .odd) : s.refreshOkay = s.setRefresh (.body s.snapshot) := by
  simp only [State.refreshOkay, hr]

theorem refreshOkay_body {v : List Word} (hr : s.ctrl.refresh = some (.body v)) :
    s.refreshOkay = s.setRefresh .even := by
  simp only [State.refreshOkay, hr]

theorem refreshOkay_even (hr : s.ctrl.refresh = some .even) : s.refreshOkay = s.endRefresh := by
  simp only [State.refreshOkay, hr]

end

/-! ### The words of a list of records -/

theorem wordAt_append_left {xs : List Word} (ys : List Word) {i : Nat} (h : i < xs.length) :
    wordAt (xs ++ ys) i = wordAt xs i := List.getD_append _ _ _ _ h

theorem wordAt_append_right (xs ys : List Word) (i : Nat) : wordAt (xs ++ ys) (xs.length + i) = wordAt ys i := by
  unfold wordAt
  rw [List.getD_append_right _ _ _ _ (Nat.le_add_right _ _), Nat.add_sub_cancel_left]

/-- Word `j` of record `i` in a run of records of `n` words each. -/
theorem wordAt_flatMap {α : Type} {f : α → List Word} {n : Nat} (hf : ∀ a, (f a).length = n) {j : Nat} (hj : j < n) :
    ∀ (l : List α) (i : Nat) (a : α), l[i]? = some a → wordAt (l.flatMap f) (n * i + j) = wordAt (f a) j
  | [], _, _, hi => nomatch hi
  | x :: xs, 0, a, hi => by
    cases hi
    rw [List.flatMap_cons, Nat.mul_zero, Nat.zero_add]
    exact wordAt_append_left _ (by rw [hf]; exact hj)
  | x :: xs, i + 1, a, hi => by
    have index : n * (i + 1) + j = (f x).length + (n * i + j) := by
      rw [hf, Nat.mul_succ]
      omega
    rw [List.flatMap_cons, index, wordAt_append_right]
    exact wordAt_flatMap hf hj xs i a hi

/-! ### The status block, region by region (R198, 12 "status block") -/

section

variable (s : State)

/-- The words 04h to 0Fh: engine state, clock-set flag and survey time. -/
def State.statusFront : List Word :=
  [packBytes s.ctrl.engine.code (flagByte s.ctrl.clockSet) 0 0] ++ dwordWords s.survey

def State.statusHeads : List Word :=
  ([0, 1, 2, 3] : List Head).flatMap fun h => headEntry (s.link h) (s.headState h) (s.record h)

def State.statusLanes : List Word := ([0, 1, 2, 3, 4] : List Lane).flatMap fun n => laneEntry (s.lane n)

def State.statusLoops : List Word := loopIds.flatMap fun l => loopEntry (s.loopAt l)

/-- The words 198h to 1BFh: pool, tide table, calibration sets and last fault. -/
def State.statusRest : List Word :=
  [BitVec.ofNat 32 s.poolFree] ++ tideEntry s.tide
    ++ [setPair (s.calSet 0) (s.calSet 1), setPair (s.calSet 2) (s.calSet 3),
        setPair (s.calSet 4) (s.calSet 5), setPair (s.calSet 6) (s.calSet 7)]
    ++ faultEntry s.port.lastFault ++ [0]

theorem snapshot_eq : s.snapshot =
    s.statusFront ++ (s.statusHeads ++ (s.statusLanes ++ (s.statusLoops ++ s.statusRest))) := by
  simp only [State.snapshot, State.statusFront, State.statusHeads, State.statusLanes, State.statusLoops,
    State.statusRest, List.append_assoc]

/-- The head entry word for word; an identity that is not known is 0. -/
theorem headEntry_eq (l : LinkReceiver) (x : HeadState) (r : OccRecord) : headEntry l x r =
    [packBytes l.tracker.code l.assembler.code l.judge.code x.judge.code,
      if x.known then packBytes 1 x.kind x.rate (BitVec.ofNat 8 l.queue.length)
        else packBytes 0 0 0 (BitVec.ofNat 8 l.queue.length),
      if x.known then x.serial else 0, packBytes r.state.code 0 0 0, r.sheet, BitVec.ofNat 32 (shownAccepted r),
      l.counters.good, l.counters.headerErr, l.counters.kindErr, l.counters.channelErr, l.counters.lengthErr,
      l.counters.crcErr, l.counters.aborted, l.counters.gaps, l.counters.overflows, l.counters.unqueued,
      l.counters.timingLosses, l.counters.missedCells] := by
  unfold headEntry identityWords
  split <;> rfl

theorem headEntry_length (l : LinkReceiver) (x : HeadState) (r : OccRecord) : (headEntry l x r).length = 18 := by
  rw [headEntry_eq]
  rfl

theorem laneEntry_length (n : LaneRecord) : (laneEntry n).length = 2 := rfl

theorem loopEntry_length (l : Loop) : (loopEntry l).length = 4 := rfl

theorem getElem?_heads : ∀ h : Head, ([0, 1, 2, 3] : List Head)[h.val]? = some h := by decide

theorem getElem?_lanes : ∀ n : Lane, ([0, 1, 2, 3, 4] : List Lane)[n.val]? = some n := by decide

theorem getElem?_loops : ∀ l : LoopId, loopIds[l.val]? = some l := by decide

theorem statusHeads_length : s.statusHeads.length = 72 := by
  simp [State.statusHeads, headEntry_length]

theorem statusLanes_length : s.statusLanes.length = 10 := rfl

theorem statusLoops_length : s.statusLoops.length = 16 := rfl

theorem tideEntry_length (t : TideUnit) : (tideEntry t).length = 2 := by
  unfold tideEntry
  dsimp only
  split <;> rfl

theorem faultEntry_length (f : Option FaultRecord) : (faultEntry f).length = 2 := by
  cases f <;> rfl

theorem statusRest_length : s.statusRest.length = 10 := by
  simp [State.statusRest, tideEntry_length, faultEntry_length]

theorem snapshot_length : s.snapshot.length = 111 := by
  rw [snapshot_eq]
  simp only [List.length_append, statusHeads_length, statusLanes_length, statusLoops_length, statusRest_length]
  rfl

theorem statusWord_front {j : Nat} (hj : j < 3) : statusWord s (0x04 + 4 * j) = wordAt s.statusFront j := by
  have index : (0x04 + 4 * j) / 4 - 1 = j := by omega
  unfold statusWord
  rw [index, snapshot_eq]
  exact wordAt_append_left _ hj

theorem statusWord_past_front (j : Nat) : statusWord s (0x10 + 4 * j) =
    wordAt (s.statusHeads ++ (s.statusLanes ++ (s.statusLoops ++ s.statusRest))) j := by
  have index : (0x10 + 4 * j) / 4 - 1 = s.statusFront.length + j := by
    change _ = 3 + j
    omega
  unfold statusWord
  rw [index, snapshot_eq, wordAt_append_right]

theorem statusWord_head (h : Head) {j : Nat} (hj : j < 18) : statusWord s (0x10 + 0x48 * h.val + 4 * j) =
    wordAt (headEntry (s.link h) (s.headState h) (s.record h)) j := by
  have index : 0x10 + 0x48 * h.val + 4 * j = 0x10 + 4 * (18 * h.val + j) := by omega
  rw [index, statusWord_past_front, wordAt_append_left _ (by rw [statusHeads_length]; omega)]
  exact wordAt_flatMap (fun g => headEntry_length _ _ _) hj _ h.val h (getElem?_heads h)

theorem statusWord_past_heads (j : Nat) : statusWord s (0x130 + 4 * j) =
    wordAt (s.statusLanes ++ (s.statusLoops ++ s.statusRest)) j := by
  have index : 0x130 + 4 * j = 0x10 + 4 * (s.statusHeads.length + j) := by
    rw [statusHeads_length]
    omega
  rw [index, statusWord_past_front, wordAt_append_right]

theorem statusWord_lane (n : Lane) {j : Nat} (hj : j < 2) :
    statusWord s (0x130 + 8 * n.val + 4 * j) = wordAt (laneEntry (s.lane n)) j := by
  have index : 0x130 + 8 * n.val + 4 * j = 0x130 + 4 * (2 * n.val + j) := by omega
  rw [index, statusWord_past_heads, wordAt_append_left _ (by rw [statusLanes_length]; omega)]
  exact wordAt_flatMap (fun _ => laneEntry_length _) hj _ n.val n (getElem?_lanes n)

theorem statusWord_past_lanes (j : Nat) : statusWord s (0x158 + 4 * j) =
    wordAt (s.statusLoops ++ s.statusRest) j := by
  have index : 0x158 + 4 * j = 0x130 + 4 * (s.statusLanes.length + j) := by
    rw [statusLanes_length]
    omega
  rw [index, statusWord_past_heads, wordAt_append_right]

theorem statusWord_loop (l : LoopId) {j : Nat} (hj : j < 4) :
    statusWord s (0x158 + 0x10 * l.val + 4 * j) = wordAt (loopEntry (s.loopAt l)) j := by
  have index : 0x158 + 0x10 * l.val + 4 * j = 0x158 + 4 * (4 * l.val + j) := by omega
  rw [index, statusWord_past_lanes, wordAt_append_left _ (by rw [statusLoops_length]; omega)]
  exact wordAt_flatMap (fun _ => loopEntry_length _) hj _ l.val l (getElem?_loops l)

theorem statusWord_rest (j : Nat) : statusWord s (0x198 + 4 * j) = wordAt s.statusRest j := by
  have index : 0x198 + 4 * j = 0x158 + 4 * (s.statusLoops.length + j) := by
    rw [statusLoops_length]
    omega
  rw [index, statusWord_past_lanes, wordAt_append_right]

end

/-! ### What the regions hold -/

/-- The low half of a word of bytes whose lower two are 0. -/
theorem halfOf_packBytes_zero (c : Byte) : halfOf (packBytes 0 0 c 0) 0 = 0 := by
  unfold halfOf packBytes
  ext i hi
  simp
  grind

theorem flagByte_scan (p : Option PendingTable) : flagByte p.isSome = if p = none then 0 else 1 := by
  cases p <;> rfl

theorem setPair_bytes (a b : CalSet) :
    byteOf (setPair a b) 0 = a.state.code ∧ byteOf (setPair a b) 1 = BitVec.ofNat 8 a.use ∧
      byteOf (setPair a b) 2 = b.state.code ∧ byteOf (setPair a b) 3 = BitVec.ofNat 8 b.use :=
  byteOf_packBytes _ _ _ _

/-- The pair that holds set `c`, and the two bytes of it that are the set's. -/
theorem setWords_bytes (f : SetId → CalSet) (rest : List Word) (c : SetId) :
    let pairs := [setPair (f 0) (f 1), setPair (f 2) (f 3), setPair (f 4) (f 5), setPair (f 6) (f 7)] ++ rest
    byteOf (wordAt pairs (c.val / 2)) (2 * (c.val % 2)) = (f c).state.code ∧
      byteOf (wordAt pairs (c.val / 2)) (2 * (c.val % 2) + 1) = BitVec.ofNat 8 (f c).use := by
  have even (a b : CalSet) := And.intro (setPair_bytes a b).1 (setPair_bytes a b).2.1
  have odd (a b : CalSet) := (setPair_bytes a b).2.2
  match c with
  | 0 => exact even (f 0) (f 1)
  | 1 => exact odd (f 0) (f 1)
  | 2 => exact even (f 2) (f 3)
  | 3 => exact odd (f 2) (f 3)
  | 4 => exact even (f 4) (f 5)
  | 5 => exact odd (f 4) (f 5)
  | 6 => exact even (f 6) (f 7)
  | 7 => exact odd (f 6) (f 7)

section

variable (s : State)

/-- The same words, grouped to the right so that each can be counted from the left. -/
theorem statusRest_grouped : s.statusRest =
    [BitVec.ofNat 32 s.poolFree] ++ (tideEntry s.tide ++ ([setPair (s.calSet 0) (s.calSet 1),
      setPair (s.calSet 2) (s.calSet 3), setPair (s.calSet 4) (s.calSet 5), setPair (s.calSet 6) (s.calSet 7)]
        ++ (faultEntry s.port.lastFault ++ [0]))) := by
  simp only [State.statusRest, List.append_assoc]

theorem statusRest_tideWord {j : Nat} (hj : j < 2) : wordAt s.statusRest (1 + j) = wordAt (tideEntry s.tide) j := by
  rw [statusRest_grouped, show 1 + j = [BitVec.ofNat 32 s.poolFree].length + j from rfl, wordAt_append_right,
    wordAt_append_left _ (by rw [tideEntry_length]; exact hj)]

theorem statusRest_past_tide (j : Nat) : wordAt s.statusRest (3 + j) =
    wordAt ([setPair (s.calSet 0) (s.calSet 1), setPair (s.calSet 2) (s.calSet 3), setPair (s.calSet 4) (s.calSet 5),
      setPair (s.calSet 6) (s.calSet 7)] ++ (faultEntry s.port.lastFault ++ [0])) j := by
  have index : 3 + j = [BitVec.ofNat 32 s.poolFree].length + ((tideEntry s.tide).length + j) := by
    rw [tideEntry_length]
    change _ = 1 + (2 + j)
    omega
  rw [statusRest_grouped, index, wordAt_append_right, wordAt_append_right]

theorem statusRest_fault (j : Nat) : wordAt s.statusRest (7 + j) = wordAt (faultEntry s.port.lastFault ++ [0]) j := by
  rw [show 7 + j = 3 + (4 + j) by omega, statusRest_past_tide]
  exact wordAt_append_right [_, _, _, _] _ j

/-- The bytes of the status block that are set `c`'s (R98). -/
theorem statusWord_set (c : SetId) :
    byteOf (statusWord s (0x1A4 + 4 * (c.val / 2))) (2 * (c.val % 2)) = (s.calSet c).state.code ∧
      byteOf (statusWord s (0x1A4 + 4 * (c.val / 2))) (2 * (c.val % 2) + 1) = BitVec.ofNat 8 (s.calSet c).use := by
  have word : statusWord s (0x1A4 + 4 * (c.val / 2)) = wordAt ([setPair (s.calSet 0) (s.calSet 1),
      setPair (s.calSet 2) (s.calSet 3), setPair (s.calSet 4) (s.calSet 5), setPair (s.calSet 6) (s.calSet 7)] ++
        (faultEntry s.port.lastFault ++ [0])) (c.val / 2) := by
    rw [show 0x1A4 + 4 * (c.val / 2) = 0x198 + 4 * (3 + c.val / 2) by omega, statusWord_rest, statusRest_past_tide]
  rw [word]
  exact setWords_bytes s.calSet _ c

/-- What the tide entry holds (R115): the table's address and count, and whether a scan is in progress. -/
theorem statusWord_tide :
    (s.tide.current = none → statusWord s 0x19C = 0 ∧ halfOf (statusWord s 0x1A0) 0 = 0) ∧
    (∀ x, s.tide.current = some x → statusWord s 0x19C = BitVec.ofNat 32 x.address ∧
      halfOf (statusWord s 0x1A0) 0 = BitVec.ofNat 16 x.count) ∧
    byteOf (statusWord s 0x1A0) 2 = (if s.tide.pendingTable = none then 0 else 1) ∧
    byteOf (statusWord s 0x1A0) 3 = 0 := by
  have first : statusWord s 0x19C = wordAt (tideEntry s.tide) 0 :=
    (statusWord_rest s 1).trans (statusRest_tideWord s (j := 0) (by decide))
  have second : statusWord s 0x1A0 = wordAt (tideEntry s.tide) 1 :=
    (statusWord_rest s 2).trans (statusRest_tideWord s (j := 1) (by decide))
  rw [first, second, ← flagByte_scan]
  unfold tideEntry
  dsimp only
  cases s.tide.current with
  | none =>
    obtain ⟨_, _, scan, fill⟩ := byteOf_packBytes 0 0 (flagByte s.tide.pendingTable.isSome) 0
    exact ⟨fun _ => ⟨rfl, halfOf_packBytes_zero _⟩, nofun, scan, fill⟩
  | some x =>
    obtain ⟨scan, fill⟩ := byteOf_packHalves (BitVec.ofNat 16 x.count) (flagByte s.tide.pendingTable.isSome) 0
    refine ⟨nofun, ?_, scan, fill⟩
    rintro _ ⟨⟩
    exact ⟨rfl, (halfOf_packHalves _ _).1⟩

theorem statusWord_fault :
    (s.port.lastFault = none → statusWord s 0x1B4 = 0 ∧ statusWord s 0x1B8 = 0) ∧
    (∀ f, s.port.lastFault = some f →
      statusWord s 0x1B4 = packBytes (BitVec.ofNat 8 f.requester.number.val) f.direction.code f.kind.code 0 ∧
      statusWord s 0x1B8 = BitVec.ofNat 32 f.address) ∧
    statusWord s 0x1BC = 0 := by
  have word (j : Nat) : statusWord s (0x198 + 4 * (7 + j)) = wordAt (faultEntry s.port.lastFault ++ [0]) j :=
    (statusWord_rest s (7 + j)).trans (statusRest_fault s j)
  have w0 : statusWord s 0x1B4 = _ := word 0
  have w1 : statusWord s 0x1B8 = _ := word 1
  have w2 : statusWord s 0x1BC = _ := word 2
  rw [w0, w1, w2]
  cases s.port.lastFault with
  | none => exact ⟨fun _ => ⟨rfl, rfl⟩, nofun, rfl⟩
  | some f =>
    refine ⟨nofun, ?_, rfl⟩
    rintro _ ⟨⟩
    exact ⟨rfl, rfl⟩

end

/-- Settles O59: the writes answered, the writes faulted, and the snapshot region by region. -/
theorem finalizationAndStatusWritesAnswered : Obligations.FinalizationAndStatusWritesAnswered := by
  refine ⟨fun s u data ws b bs rest e es done hu hb he hrest => ⟨fun hf => ?_, fun hf => ?_⟩,
    fun s k c b bs rest e es faulted hf hb he hrest => ?_, fun s k c faulted hs hr => ?_,
    fun s u data ws ended done hu hs hended => ⟨fun hr => ?_, fun v hr => ?_, fun hr => ?_⟩,
    fun s word hword => ?_, by decide⟩
  · have taken : exec (.busAnswer (.okay data)) s = .next (s.freed .driftUnit).driftOkay := exec_okay_of_completes done
    rw [taken, driftOkay_drift (s := s.freed .driftUnit) hf, hu]
    rfl
  · have taken : exec (.busAnswer (.okay data)) s = .next (s.freed .driftUnit).driftOkay := exec_okay_of_completes done
    rw [taken, driftOkay_stateWord (s := s.freed .driftUnit) hf,
      endFinalization_eq (s := s.freed .driftUnit) hb he, hu, hrest]
    rfl
  · obtain ⟨u, d, a, taken, lastFault, grant, slot, ctrl, part⟩ := requesterFault_of_faults faulted
    have drift : u.drift = s.drift := part.drift (by decide)
    have ended : u.driftFault = u.endFinalization := driftFault_of_finalizing (by rw [drift]; exact hf)
    refine ⟨u.driftFault, taken, ?_, ?_⟩
    · rw [ended, endFinalization_eq (by rw [drift, hb]) he, hrest, drift]
    · rw [ended]
      exact ⟨ctrl, grant, slot, ⟨d, a, lastFault⟩, part.andThen (endFinalization_frame u) (by decide)⟩
  · obtain ⟨u, d, a, taken, lastFault, grant, slot, ctrl, part⟩ := requesterFault_of_faults faulted
    have ended : u.controlFault = u.endRefresh :=
      controlFault_refresh (by rw [ctrl]; exact hs) (by rw [ctrl]; exact hr)
    refine ⟨u.controlFault, taken, ?_, ?_⟩
    · rw [ended, State.endRefresh, ctrl]
    · rw [ended]
      exact ⟨grant, slot, ⟨d, a, lastFault⟩, part.andThen (endRefresh_frame u) (by decide)⟩
  · have taken : exec (.busAnswer (.okay data)) s = .next ((s.freed .controlPort).controlOkay ws) :=
      exec_okay_of_completes done
    rw [taken, controlOkay_refresh (s := s.freed .controlPort) hs, refreshOkay_odd (s := s.freed .controlPort) hr, hu]
    rfl
  · have taken : exec (.busAnswer (.okay data)) s = .next ((s.freed .controlPort).controlOkay ws) :=
      exec_okay_of_completes done
    rw [taken, controlOkay_refresh (s := s.freed .controlPort) hs, refreshOkay_body (s := s.freed .controlPort) hr, hu]
    rfl
  · have taken : exec (.busAnswer (.okay data)) s = .next ((s.freed .controlPort).controlOkay ws) :=
      exec_okay_of_completes done
    rw [taken, controlOkay_refresh (s := s.freed .controlPort) hs, refreshOkay_even (s := s.freed .controlPort) hr, hu,
      hended]
    rfl
  · simp only [hword]
    have front {j : Nat} (hj : j < 3) := statusWord_front s hj
    obtain ⟨noTable, table, scan, fill⟩ := statusWord_tide s
    obtain ⟨noFault, fault, last⟩ := statusWord_fault s
    refine ⟨snapshot_length s, front (j := 0) (by decide), ?_, fun h b hb => ?_, fun n => ?_, fun l b hb => ?_,
      statusWord_rest s 0, noTable, table, scan, fill, fun c w hw => ?_, noFault, fault, last⟩
    · rw [show statusWord s 0x0C = _ from front (j := 2) (by decide),
        show statusWord s 0x08 = _ from front (j := 1) (by decide)]
      exact dwordWords_append s.survey
    · subst hb
      have entry {j : Nat} (hj : j < 18) := statusWord_head s h hj
      rw [headEntry_eq] at entry
      exact ⟨entry (j := 0) (by decide), entry (j := 1) (by decide), entry (j := 2) (by decide),
        entry (j := 3) (by decide), entry (j := 4) (by decide), entry (j := 5) (by decide),
        entry (j := 6) (by decide), entry (j := 7) (by decide), entry (j := 8) (by decide),
        entry (j := 9) (by decide), entry (j := 10) (by decide), entry (j := 11) (by decide),
        entry (j := 12) (by decide), entry (j := 13) (by decide), entry (j := 14) (by decide),
        entry (j := 15) (by decide), entry (j := 16) (by decide), entry (j := 17) (by decide)⟩
    · refine ⟨statusWord_lane s n (j := 0) (by decide), ?_⟩
      rw [show 0x134 + 8 * n.val = 0x130 + 8 * n.val + 4 * 1 by omega, statusWord_lane s n (by decide)]
      cases anchor : (s.lane n).anchor <;> simp [laneEntry, wordAt, anchor]
    · subst hb
      have entry {j : Nat} (hj : j < 4) := statusWord_loop s l hj
      refine ⟨entry (j := 0) (by decide), entry (j := 1) (by decide), ?_⟩
      rw [show statusWord s _ = _ from entry (j := 3) (by decide),
        show statusWord s _ = _ from entry (j := 2) (by decide)]
      exact dwordWords_append _
    · subst hw
      exact statusWord_set s c

end Sys2Proof.Machine
end

-- ==== Proofs of the family "station occupations": what the requesters present (O10) ====
section

namespace Sys2Proof.Machine

/-! ### The access that each requester presents (R174) -/

section

variable {s : State}

theorem exec_accessPresent_free {r : Requester} (free : s.slot r = none) :
    exec (.accessPresent r) s = .next (s.presentNext r) := if_pos free

theorem exec_accessPresent_waiting {r : Requester} (waiting : s.slot r ≠ none) :
    exec (.accessPresent r) s = .next s := if_neg waiting

theorem setLook_fixed {k : Look} (hk : s.walker.look = some k) : s.setLook (some k) = s := by
  unfold State.setLook
  rw [← hk]

/-- A look that waits for an access presents it; a write is placed with its presentation (R154, log 15). -/
theorem presentWalker_eq {k : Look} {a : Access} (hk : s.walker.look = some k) (ha : s.lookAccess k = some a) :
    s.presentWalker = (s.setLook (some { k with placed := k.placed || decide (a.direction = .write) })).present
      .sheetWalker a := by
  unfold State.presentWalker
  rw [hk]
  dsimp only
  split
  · rename_i misaligned
    simp [State.lookAccess, misaligned] at ha
  · rw [ha]

theorem presentWalker_read {k : Look} {w : WindowClass} {a n : Nat} (hk : s.walker.look = some k)
    (ha : s.lookAccess k = some (readAccess w a n)) : s.presentWalker = s.present .sheetWalker (readAccess w a n) := by
  have placed : { k with placed := k.placed || decide ((readAccess w a n).direction = .write) } = k := by
    rw [show decide ((readAccess w a n).direction = .write) = false from rfl, Bool.or_false]
  rw [presentWalker_eq hk ha, placed, setLook_fixed hk]

theorem presentWalker_write {k : Look} {a : Nat} {ws : List Word} (hk : s.walker.look = some k)
    (ha : s.lookAccess k = some (writeAccess a ws)) : s.presentWalker =
      (s.setLook (some { k with placed := true })).present .sheetWalker (writeAccess a ws) := by
  rw [presentWalker_eq hk ha, show decide ((writeAccess a ws).direction = .write) = true from rfl, Bool.or_true]

theorem presentWalker_misaligned {k : Look} {a : Word} (hk : s.walker.look = some k) (stage : k.stage = .misaligned a) :
    s.presentWalker = (s.recordFault .sheetWalker .read a.toNat .window).lookFault k := by
  simp only [State.presentWalker, hk, stage]

/-- A misaligned candidate is a refused access: the fault at once, with no grant, and the lane HELD (R146, R178). -/
theorem misaligned_refused (k : Look) (a : Nat) :
    let t := (s.recordFault .sheetWalker .read a .window).lookFault k
    t.port.lastFault = some ⟨.sheetWalker, .read, a, .window⟩ ∧ t.port.grant = s.port.grant ∧
      lookTested k [.memfault] s t ∧ (t.lane k.lane).state = .held ∧ t.walker.look = none ∧
      unchangedBut [.walker, .port, .ctrl, .cal] s t := by
  have recorded := recordFault_frame s .sheetWalker .read a .window
  set u := s.recordFault .sheetWalker .read a .window with hu
  have returned := returnClaim_frame u k
  have port := (lookFault_frame u k).port (by decide)
  refine ⟨?_, ?_, endLook_tested s k .held false ((returned.ctrl (by decide)).trans ?_), ?_, endLook_look _ k _ _,
    recorded.andThen (lookFault_frame u k) (by decide)⟩
  · rw [port, hu]
    rfl
  · rw [port, hu]
    rfl
  · rw [hu]
    rfl
  · exact congrArg LaneRecord.state (endLook_lane (u.returnClaim k) k .held false)

theorem presentTide_lookup {k : Lookup} (hk : s.tide.lookup = some k) : s.presentTide =
    ({ s with tide := { s.tide with slot := some .lookup } } : State).present .tideUnit (lookupAccess k) := by
  simp only [State.presentTide, State.tideAccess, hk]

theorem presentTide_scan {p : PendingTable} (hk : s.tide.lookup = none) (hp : s.tide.pendingTable = some p)
    (more : p.nextIndex < p.count) : s.presentTide =
      ({ s with tide := { s.tide with slot := some .scan } } : State).present .tideUnit
        (readAccess .table (p.address + 48 * p.nextIndex) 12) := by
  simp only [State.presentTide, State.tideAccess, hk, hp, more, if_true]
  rfl

theorem presentOccupation_cons {e : QueueEntry} {rest : List QueueEntry} (hq : s.occ.queue = e :: rest) :
    s.presentOccupation =
      ({ s with occ := { s.occ with queue := rest, issued := some (s.issueOf e).1 } } : State).present
        .occupationController (s.issueOf e).2 := by
  simp only [State.presentOccupation, hq]

/-- The Drift Unit presents the access of the entry under finalization (R48). -/
theorem driftAccess_eq {b : Batch} {bs : List Batch} {e : PoolEntry} {es : List PoolEntry} {l : Landing}
    {w : FinalWrite} (hb : s.drift.batches = b :: bs) (he : b.entries = e :: es) (hl : e.landing = some l)
    (hw : s.drift.finalizing = some w) : s.driftAccess = some (finalAccess w b.kind e l) := by
  simp [State.driftAccess, State.finalEntry, hb, he, hl, hw]

theorem presentNext_order {a : Access} (ha : s.orderAccess = some a) :
    s.presentNext .orderExecutor = s.present .orderExecutor a := by
  simp only [State.presentNext, ha]

theorem presentNext_drift {a : Access} (ha : s.driftAccess = some a) :
    s.presentNext .driftUnit = s.present .driftUnit a := by
  simp only [State.presentNext, ha]

theorem presentNext_refresh {a : Word} {x : Refresh} (hs : s.ctrl.starting ≠ some .directory)
    (ha : s.ctrl.statusAddress = some a) (hr : s.ctrl.refresh = some x) : s.presentNext .controlPort =
      s.present .controlPort (refreshAccess a s.ctrl.generation x) := by
  simp only [State.presentNext, hs, if_false, State.presentRefresh, ha, hr]

theorem presentNext_directory (free : s.slot .controlPort = none) (hs : s.ctrl.starting = some .directory)
    (fresh : ∀ g, s.port.grant = some g → g.discard = true → g.requester ≠ .controlPort) :
    s.presentNext .controlPort = s.present .controlPort (readAccess .none s.ctrl.directory.toNat 18) := by
  have stale : s.staleControlGrant = false := by
    unfold State.staleControlGrant
    split
    · rfl
    · rename_i g hg
      rw [Bool.and_eq_false_iff, decide_eq_false_iff_not, ← Bool.not_eq_true, ← imp_iff_not_or]
      exact fresh g hg
  simp only [State.presentNext, hs, if_true, State.presentDirectory, free, stale, and_self]
  rfl

end

/-! ### What the words of a record hold (R23, R25, R28, 12) -/

theorem i64Words_holds (x : Int) : holdsI64 (wordAt (i64Words x) 0) (wordAt (i64Words x) 1) x := by
  obtain ⟨lo, hi, e, holds⟩ := i64Words_eq x
  rw [e]
  exact holds

theorem u64Words_holds (t : Nat) : wordAt (u64Words t) 1 ++ wordAt (u64Words t) 0 = BitVec.ofNat 64 t := by
  obtain ⟨lo, hi, e, holds⟩ := u64Words_eq t
  rw [e]
  exact holds

theorem trailWords_hold (x : TrailRecord) (w : Nat → Word) (hw : ∀ i, w i = wordAt (trailWords x) (i / 4)) :
    (trailWords x).length = 8 ∧ w 0x04 ++ w 0x00 = BitVec.ofNat 64 x.time ∧
    w 0x08 = BitVec.ofInt 32 x.sample.counts ∧ halfOf (w 0x0C) 0 = BitVec.ofInt 16 x.sample.tiltX ∧
    halfOf (w 0x0C) 1 = BitVec.ofInt 16 x.sample.tiltY ∧ w 0x10 = BitVec.ofInt 32 x.sample.temperature ∧
    w 0x14 = x.disposition.code.setWidth 32 ∧ holdsI64 (w 0x18) (w 0x1C) x.corrected := by
  simp only [hw]
  obtain ⟨tiltX, tiltY⟩ := halfOf_packHalves (BitVec.ofInt 16 x.sample.tiltX) (BitVec.ofInt 16 x.sample.tiltY)
  exact ⟨rfl, u64Words_holds x.time, rfl, tiltX, tiltY, rfl, packBytes_fill x.disposition.code,
    i64Words_holds x.corrected⟩

theorem driftWords_hold (overflow fault : Bool) (d : DriftFields) (w : Nat → Word)
    (hw : ∀ i, w i = wordAt (driftWords overflow fault d) ((i - 0xA0) / 4)) :
    (driftWords overflow fault d).length = 9 ∧
    (∀ i, (w 0xA0).getLsbD i = (i == 0 && overflow || i == 1 && fault || i == 2 && d.valid)) ∧
    w 0xA4 = d.status.code.setWidth 32 ∧ holdsI64 (w 0xA8) (w 0xAC) d.amount ∧
    holdsI64 (w 0xB0) (w 0xB4) d.finalValue ∧ w 0xBC ++ w 0xB8 = BitVec.ofNat 64 d.closeTime ∧
    w 0xC0 = d.generation := by
  simp only [hw]
  exact ⟨rfl, flagsWord_bits overflow fault d.valid, packBytes_fill d.status.code, i64Words_holds d.amount,
    i64Words_holds d.finalValue, u64Words_holds d.closeTime, rfl⟩

theorem ifAccepted_toNat (a : Accumulation) (n : Nat) :
    (ifAccepted a n).toNat = if a.accepted = 0 then 0 else n := by
  unfold ifAccepted
  split <;> rfl

theorem resultWords_hold (r : OccRecord) (w : Nat → Word) (mean : Int → Int)
    (hw : ∀ i, w i = wordAt (resultWords r) ((i - 0x38) / 4))
    (hmean : ∀ x, mean x = if r.acc.accepted = 0 then 0 else roundDiv x r.acc.accepted) :
    (resultWords r).length = 27 ∧ w 0x38 = BitVec.ofNat 32 r.acc.accepted ∧ w 0x3C = r.rejHead ∧
    w 0x40 = r.rejGate ∧ w 0x44 = r.rejTilt ∧ w 0x48 = r.rejTide ∧ w 0x4C = r.settling ∧ w 0x50 = r.acc.extrap ∧
    halfOf (w 0x54) 0 = BitVec.ofNat 16 r.trailCount ∧ byteOf (w 0x54) 2 = BitVec.ofNat 8 r.intr ∧
    byteOf (w 0x54) 3 = 0 ∧
    w 0x5C ++ w 0x58 = BitVec.ofNat 64 (if r.acc.accepted = 0 then 0 else r.acc.firstTime) ∧
    w 0x64 ++ w 0x60 = BitVec.ofNat 64 (if r.acc.accepted = 0 then 0 else r.acc.lastTime) ∧
    w 0x6C ++ w 0x68 =
      BitVec.ofNat 64 (if r.acc.accepted = 0 then 0 else (r.acc.firstTime + r.acc.lastTime) / 2) ∧
    holdsI64 (w 0x70) (w 0x74) (mean r.acc.sum) ∧
    holdsI64 (w 0x78) (w 0x7C) (if r.acc.accepted = 0 then 0 else r.acc.min) ∧
    holdsI64 (w 0x80) (w 0x84) (if r.acc.accepted = 0 then 0 else r.acc.max) ∧
    holdsI64 (w 0x88) (w 0x8C) (mean r.acc.tiltSum) ∧ holdsI64 (w 0x90) (w 0x94) (mean r.acc.tempSum) ∧
    holdsI64 (w 0x98) (w 0x9C) (mean r.acc.tideSum) ∧
    (∀ i, (w 0xA0).getLsbD i = (i == 0 && r.trailOverflow || i == 1 && r.trailFault)) := by
  have means (x : Int) : mean x = meanOf x r.acc.accepted := hmean x
  obtain ⟨counted, _⟩ := halfOf_packHalves (BitVec.ofNat 16 r.trailCount) (0#8 ++ BitVec.ofNat 8 r.intr)
  obtain ⟨interrupted, fill⟩ := byteOf_packHalves (BitVec.ofNat 16 r.trailCount) (BitVec.ofNat 8 r.intr) 0
  obtain ⟨first0, first1, efirst, first⟩ := u64Words_eq (ifAccepted r.acc r.acc.firstTime).toNat
  obtain ⟨last0, last1, elast, last⟩ := u64Words_eq (ifAccepted r.acc r.acc.lastTime).toNat
  obtain ⟨mid0, mid1, emid, mid⟩ := u64Words_eq (midTimeOf r.acc)
  obtain ⟨mean0, mean1, emean, meanHeld⟩ := i64Words_eq (meanOf r.acc.sum r.acc.accepted)
  obtain ⟨min0, min1, emin, minHeld⟩ := i64Words_eq (ifAccepted r.acc r.acc.min)
  obtain ⟨max0, max1, emax, maxHeld⟩ := i64Words_eq (ifAccepted r.acc r.acc.max)
  obtain ⟨tilt0, tilt1, etilt, tiltHeld⟩ := i64Words_eq (meanOf r.acc.tiltSum r.acc.accepted)
  obtain ⟨temp0, temp1, etemp, tempHeld⟩ := i64Words_eq (meanOf r.acc.tempSum r.acc.accepted)
  obtain ⟨tide0, tide1, etide, tideHeld⟩ := i64Words_eq (meanOf r.acc.tideSum r.acc.accepted)
  rw [ifAccepted_toNat] at first last
  have words : resultWords r = [BitVec.ofNat 32 r.acc.accepted, r.rejHead, r.rejGate, r.rejTilt, r.rejTide, r.settling,
      r.acc.extrap, packHalves (BitVec.ofNat 16 r.trailCount) (0#8 ++ BitVec.ofNat 8 r.intr), first0, first1, last0,
      last1, mid0, mid1, mean0, mean1, min0, min1, max0, max1, tilt0, tilt1, temp0, temp1, tide0, tide1,
      flagsWord r.trailOverflow r.trailFault false] := by
    unfold resultWords
    rw [efirst, elast, emid, emean, emin, emax, etilt, etemp, etide]
    rfl
  simp only [hw, words, means]
  refine ⟨rfl, rfl, rfl, rfl, rfl, rfl, rfl, rfl, counted, interrupted, fill, first, last, mid, meanHeld, minHeld,
    maxHeld, tiltHeld, tempHeld, tideHeld, fun i => ?_⟩
  refine (flagsWord_bits r.trailOverflow r.trailFault false i).trans ?_
  rw [Bool.and_false, Bool.or_false]

/-- Settles O10: the requesters in turn, a full slot, the words of the three records, and the codes. -/
theorem accessesPresented : Obligations.AccessesPresented := by
  refine ⟨fun s shows hshows => ?_, trailWords_hold, driftWords_hold, fun r a w mean ha hw hmean => ?_, by decide⟩
  · have presents {r : Requester} {u : State} {a : Access} (free : s.slot r = none)
        (e : s.presentNext r = u.present r a) : shows r u a :=
      (hshows r u a).mpr (by rw [exec_accessPresent_free free, e]; rfl)
    refine ⟨fun k free hk => ?_, fun a free ha => ?_, fun free => ⟨fun k u hk hu => ?_, fun p hk hp more => ?_⟩,
      fun e rest issued free hq hissued => ?_, fun b bs e es l free hb he hl => ?_,
      fun free => ⟨fun a hs ha => ?_, fun hs fresh => ?_⟩, fun r waiting => exec_accessPresent_waiting waiting⟩
    · have reads {w : WindowClass} {a n : Nat} (ha : s.lookAccess k = some (readAccess w a n)) :
          shows .sheetWalker s (readAccess w a n) := presents free (presentWalker_read hk ha)
      have writes {a : Nat} {ws : List Word} (ha : s.lookAccess k = some (writeAccess a ws)) :
          shows .sheetWalker (s.setLook (some { k with placed := true })) (writeAccess a ws) :=
        presents free (presentWalker_write hk ha)
      refine ⟨fun st => ?_, fun a st anchor => ?_, fun st => ?_, fun st => ?_, fun st => ?_, fun r st => ?_,
        fun st => ?_, fun a st => ?_⟩
      · exact reads (by simp only [State.lookAccess, st]; rfl)
      · exact reads (by simp only [State.lookAccess, st, anchor]; rfl)
      · exact reads (by simp only [State.lookAccess, st])
      · exact reads (by simp only [State.lookAccess, st])
      · exact writes (by simp only [State.lookAccess, st]; rfl)
      · exact writes (by simp only [State.lookAccess, st]; rfl)
      · exact writes (by simp only [State.lookAccess, st]; rfl)
      · have taken : exec (.accessPresent .sheetWalker) s =
            .next ((s.recordFault .sheetWalker .read a.toNat .window).lookFault k) := by
          rw [exec_accessPresent_free free, ← presentWalker_misaligned hk st]
          rfl
        exact ⟨_, taken, misaligned_refused k a.toNat⟩
    · have offers {x : Access} (hx : s.orderAccess = some x) : shows .orderExecutor s x :=
        presents free (presentNext_order hx)
      refine ⟨fun st => ?_, fun l st hl => ⟨fun first => ?_, fun second => ?_⟩, fun st => ?_,
        fun st => ⟨fun done => ?_, fun refused => ?_⟩⟩
      · exact offers (by simp only [State.orderAccess, ha, st]; rfl)
      · exact offers (by simp only [State.orderAccess, ha, st, hl, Option.map_some, loadAccess, first, if_true]; rfl)
      · exact offers (by simp only [State.orderAccess, ha, st, hl, Option.map_some, loadAccess, second, if_false]; rfl)
      · exact offers (by simp only [State.orderAccess, ha, st]; rfl)
      · exact offers (by simp only [State.orderAccess, ha, st, done, Option.map_some]; rfl)
      · exact offers (by simp only [State.orderAccess, ha, st, refused, Option.map_some]; rfl)
    · have shown : shows .tideUnit u (lookupAccess k) := by
        rw [hu]
        exact presents free (presentTide_lookup hk)
      refine ⟨fun phase => ?_, fun phase => ?_⟩
      · have probe : lookupAccess k =
            ⟨.read, .table, k.table.address + 48 * ((k.lo + k.hi + 1) / 2), 3, []⟩ := by
          simp only [lookupAccess, phase]
          rfl
        rw [← probe]
        exact shown
      · have segment : lookupAccess k = ⟨.read, .table, k.table.address + 48 * k.lo, 12, []⟩ := by
          simp only [lookupAccess, phase]
          rfl
        rw [← segment]
        exact shown
    · exact presents free (presentTide_scan hk hp more)
    · have issues : shows .occupationController (issued (s.issueOf e).1) (s.issueOf e).2 := by
        rw [hissued]
        exact presents free (presentOccupation_cons hq)
      refine ⟨fun h n a x he => ?_, fun h o he ho => ?_, fun h a ha => ⟨fun he => ?_, fun he => ?_⟩⟩
      · subst he
        exact issues
      · subst he
        have word : outcomeWord (s.record h) = o.code := by simp only [outcomeWord, ho]
        rw [← word]
        exact issues
      · subst he ha
        exact issues
      · subst he ha
        exact issues
    · exact ⟨fun hw => presents free (presentNext_drift (driftAccess_eq hb he hl hw)),
        fun hw => presents free (presentNext_drift (driftAccess_eq hb he hl hw))⟩
    · exact ⟨fun hr => presents free (presentNext_refresh hs ha hr),
        fun v hr => presents free (presentNext_refresh hs ha hr),
        fun hr => presents free (presentNext_refresh hs ha hr)⟩
    · exact presents free (presentNext_directory free hs fresh)
  · subst ha
    exact resultWords_hold r w mean hw hmean

end Sys2Proof.Machine
end

-- ==== Proofs of the family "station occupations": the take of a station sheet (O45) ====
section

namespace Sys2Proof.Machine

/-! ### The loop check (R32 to R34) -/

/-- The generation that a take gives its record: the loop's after the check, and 0 with no loop (R3, R32). -/
def State.takeGeneration (role : Role) (loop : Option LoopId) (s : State) : BitVec 32 :=
  match loop with
  | none => 0
  | some l => if role = .baseOpen then (s.loopAt l).generation + 1 else (s.loopAt l).generation

/-- The loop of a take, where it names one, passes the check. -/
def loopFits (role : Role) (x : LoopState) : Prop :=
  role = .baseOpen ∧ x = .free ∨ (role = .baseClose ∨ role = .baseTurn) ∧ x = .opened ∨
    role = .station ∧ x ≠ .free

/-- What a passed loop check leaves: at most the loop that it names, with LOOP raised where its state changes. -/
structure LoopChecked (role : Role) (loop : Option LoopId) (s t : State) : Prop where
  frame : unchangedBut [.drift, .ctrl] s t
  now : t.now = s.now
  opening : ∀ l, loop = some l → role = .baseOpen → t.loopAt l = openingLoop (s.loopAt l)
  closing : ∀ l, loop = some l → role = .baseClose ∨ role = .baseTurn → t.loopAt l = closingLoop (s.loopAt l)
  station : ∀ l, loop = some l → role = .station → t.loopAt l = s.loopAt l
  others : ∀ l, loop = some l → ∀ i, i ≠ l → t.loopAt i = s.loopAt i
  raised : ∀ l, loop = some l → role ≠ .station → t.ctrl = { s.ctrl with raised := s.ctrl.raised ++ [.loop] }
  untouched : loop = none ∨ role = .station → t.drift = s.drift ∧ t.ctrl = s.ctrl

section

variable {s t : State} {role : Role} {loop : Option LoopId}

theorem LoopChecked.record (checked : LoopChecked role loop s t) (i : Head) : t.record i = s.record i :=
  record_of_frame checked.frame i

theorem LoopChecked.inbox (checked : LoopChecked role loop s t) (i : Head) : t.inbox i = s.inbox i :=
  congrArg (fun o : OccupationController => o.inbox[i]) (checked.frame.occ (by decide))

theorem LoopChecked.headState (checked : LoopChecked role loop s t) (h : Head) : t.headState h = s.headState h :=
  congrArg (fun u : CorrectionUnit => u.heads[h]) (checked.frame.corr (by decide))

theorem LoopChecked.link (checked : LoopChecked role loop s t) (h : Head) : t.link h = s.link h :=
  congrArg (fun x : Vector LinkReceiver 4 => x[h]) (checked.frame.links (by decide))

end

section

variable {s : State} {l : LoopId} {role : Role}

theorem loopCheck_open (free : (s.loopAt l).state = .free) :
    s.loopCheck .baseOpen l = some ((s.updLoop l openingLoop).raise .loop) := by
  simp only [State.loopCheck, free]

theorem loopCheck_close (role_eq : role = .baseClose ∨ role = .baseTurn) (opened : (s.loopAt l).state = .opened) :
    s.loopCheck role l = some ((s.updLoop l closingLoop).raise .loop) := by
  rcases role_eq with rfl | rfl <;> simp only [State.loopCheck, opened]

theorem loopCheck_station (taken : (s.loopAt l).state ≠ .free) : s.loopCheck .station l = some s := by
  unfold State.loopCheck
  cases st : (s.loopAt l).state with
  | free => exact absurd st taken
  | opening => rfl
  | opened => rfl
  | closing => rfl

theorem loopCheck_refused (unfit : role = .baseOpen ∧ (s.loopAt l).state ≠ .free ∨
    (role = .baseClose ∨ role = .baseTurn) ∧ (s.loopAt l).state ≠ .opened ∨
    role = .station ∧ (s.loopAt l).state = .free) : s.loopCheck role l = none := by
  unfold State.loopCheck
  rcases unfit with ⟨rfl, st⟩ | ⟨rfl | rfl, st⟩ | ⟨rfl, st⟩ <;> cases e : (s.loopAt l).state <;>
    simp_all

theorem loopChecked_none : LoopChecked role none s s where
  frame := unchangedBut_self _ s
  now := rfl
  opening := nofun
  closing := nofun
  station := nofun
  others := nofun
  raised := nofun
  untouched := fun _ => ⟨rfl, rfl⟩

theorem loopChecked_station : LoopChecked .station (some l) s s where
  frame := unchangedBut_self _ s
  now := rfl
  opening := nofun
  closing := nofun
  station := fun _ _ _ => rfl
  others := fun _ _ _ _ => rfl
  raised := fun _ _ base => absurd rfl base
  untouched := fun _ => ⟨rfl, rfl⟩

/-- The loop of a base take is changed by `f`, and LOOP is raised. -/
theorem loopChecked_base {f : Loop → Loop} (base : role ≠ .station)
    (open_eq : role = .baseOpen → f = openingLoop)
    (close_eq : role = .baseClose ∨ role = .baseTurn → f = closingLoop) :
    LoopChecked role (some l) s ((s.updLoop l f).raise .loop) where
  frame := (updLoop_frame s l f).andThen (raise_frame _ .loop) (by decide)
  now := rfl
  opening := by
    rintro _ ⟨⟩ role_eq
    rw [raise_loopAt, updLoop_loopAt_same, open_eq role_eq]
  closing := by
    rintro _ ⟨⟩ role_eq
    rw [raise_loopAt, updLoop_loopAt_same, close_eq role_eq]
  station := fun _ _ role_eq => absurd role_eq base
  others := by
    rintro _ ⟨⟩ i n
    rw [raise_loopAt, updLoop_loopAt_ne _ _ _ _ n]
  raised := fun _ _ _ => rfl
  untouched := fun c => absurd (c.resolve_left nofun) base

/-- A loop check that passes. -/
theorem sheetLoopCheck_passes {loop : Option LoopId} (fits : ∀ l, loop = some l → loopFits role (s.loopAt l).state) :
    ∃ t, s.sheetLoopCheck role loop = some (t, s.takeGeneration role loop) ∧ LoopChecked role loop s t := by
  cases loop with
  | none => exact ⟨s, rfl, loopChecked_none⟩
  | some l =>
    rcases fits l rfl with ⟨rfl, st⟩ | ⟨role_eq, st⟩ | ⟨rfl, st⟩
    · refine ⟨_, ?_, loopChecked_base (f := openingLoop) (by decide) (fun _ => rfl)
        fun other => absurd other (by decide)⟩
      simp only [State.sheetLoopCheck, loopCheck_open st, Option.map_some, raise_loopAt, updLoop_loopAt_same]
      rfl
    · have notOpen : role ≠ .baseOpen := by rcases role_eq with rfl | rfl <;> decide
      have base : role ≠ .station := by rcases role_eq with rfl | rfl <;> decide
      refine ⟨_, ?_, loopChecked_base (f := closingLoop) base (absurd · notOpen) (fun _ => rfl)⟩
      simp only [State.sheetLoopCheck, loopCheck_close role_eq st, Option.map_some, raise_loopAt,
        updLoop_loopAt_same, State.takeGeneration, notOpen, if_false]
      rfl
    · refine ⟨s, ?_, loopChecked_station⟩
      simp only [State.sheetLoopCheck, loopCheck_station st, Option.map_some]
      rfl

end

/-! ### The record's take (R3 to R5) -/

/-- The state in which a record enters its occupation, by the head's identity and judge (R4). -/
def enteredRecord (x : HeadState) (now : Nat) (r : OccRecord) : OccRecord :=
  if x.known then
    if x.judge = .settled then acquiringRecord now { r with state := .settling } else { r with state := .settling }
  else r

/-- The record loaded, past trail records purged, and nothing presented to it. -/
def State.loadedRecord (h : Head) (sheet : Word) (q : StationRequest) (role : Role) (loop : Option LoopId)
    (g : BitVec 32) (c : SetId) (s : State) : State :=
  ((s.updRecord h (takenRecord s.now sheet q role loop g c)).purgeTrails).updInbox h fun _ => {}

def State.enteredState (h : Head) (s : State) : State :=
  if (s.headState h).known then s.enterSettling h else s

section

variable {s : State} {h : Head}

theorem takeRecord_eq (a : Word) (q : StationRequest) (role : Role) (l : Option LoopId) (g : BitVec 32) (c : SetId) :
    s.takeRecord h a q role l g c =
      if (s.link h).judge = .down then ((s.loadedRecord h a q role l g c).enteredState h).linkLoss h
      else (s.loadedRecord h a q role l g c).enteredState h := by
  have same : ((s.loadedRecord h a q role l g c).enteredState h).link h = s.link h := by
    unfold State.enteredState
    split
    · unfold State.link
      rw [(enterSettling_frame _ h).links (by decide)]
      rfl
    · rfl
  rw [← same]
  rfl

theorem enteredState_frame : unchangedBut [.occ] s (s.enteredState h) := by
  unfold State.enteredState
  split
  · exact enterSettling_frame s h
  · exact unchangedBut_self _ s

theorem enteredState_record : (s.enteredState h).record h = enteredRecord (s.headState h) s.now (s.record h) := by
  unfold State.enteredState enteredRecord
  split
  · cases j : (s.headState h).judge with
    | settled =>
      rw [enterSettling_of_settled j, enterAcquiring_record, updRecord_record_same, if_pos rfl]
      rfl
    | unsettled => rw [enterSettling_of_unsettled j, updRecord_record_same, if_neg (by decide)]
  · rfl

/-- Beside record `h`, an entry into SETTLING or ACQUIRING changes nothing at the Occupation Controller. -/
theorem enteredState_rest : (s.enteredState h).occ.inbox = s.occ.inbox ∧
    ∀ i, i ≠ h → (s.enteredState h).record i = s.record i := by
  unfold State.enteredState
  split
  · cases j : (s.headState h).judge with
    | settled =>
      rw [enterSettling_of_settled j]
      refine ⟨rfl, fun i n => ?_⟩
      rw [State.enterAcquiring, updRecord_record_ne _ _ _ _ n, updRecord_record_ne _ _ _ _ n]
    | unsettled =>
      rw [enterSettling_of_unsettled j]
      exact ⟨rfl, fun i n => updRecord_record_ne s h i _ n⟩
  · exact ⟨rfl, fun _ _ => rfl⟩

theorem linkLoss_rest : (s.linkLoss h).occ.inbox = s.occ.inbox ∧
    ∀ i, i ≠ h → (s.linkLoss h).record i = s.record i := by
  by_cases g : (s.record h).linkGrace = 0
  · rw [linkLoss_no_grace g]
    exact ⟨rfl, fun i n => endOccupation_record_ne s h i _ n⟩
  · rw [linkLoss_grace g]
    exact ⟨rfl, fun i n => updRecord_record_ne s h i _ n⟩

/-- What an entry into SETTLING or ACQUIRING leaves of a record just loaded. -/
theorem enteredRecord_kept (x : HeadState) (now : Nat) (r : OccRecord) :
    (enteredRecord x now r).linkGrace = r.linkGrace ∧ (enteredRecord x now r).calSet = r.calSet ∧
      (enteredRecord x now r).graceTimer = r.graceTimer ∧ (enteredRecord x now r).joinFailed = r.joinFailed ∧
      (r.state ≠ .idle → (enteredRecord x now r).state ≠ .idle) := by
  unfold enteredRecord
  rw [acquiringRecord_eq]
  split
  · split
    · exact ⟨rfl, rfl, rfl, rfl, fun _ => nofun⟩
    · exact ⟨rfl, rfl, rfl, rfl, fun _ => nofun⟩
  · exact ⟨rfl, rfl, rfl, rfl, id⟩

end

section

variable {s : State} {h : Head} {a : Word} {q : StationRequest} {role : Role} {l : Option LoopId} {g : BitVec 32}
  {c : SetId}

theorem loadedRecord_record : (s.loadedRecord h a q role l g c).record h =
    takenRecord s.now a q role l g c (s.record h) := by
  rw [State.loadedRecord, updInbox_record, purgeTrails_record, updRecord_record_same]

/-- The record as it enters its occupation, before the link is looked at (R4, R5). -/
theorem entered_record : ((s.loadedRecord h a q role l g c).enteredState h).record h =
    enteredRecord (s.headState h) s.now (takenRecord s.now a q role l g c (s.record h)) := by
  rw [enteredState_record, loadedRecord_record]
  rfl

/-- A take empties the record's inbox and leaves the other records as they were (R3, log 31). -/
theorem takeRecord_rest : (s.takeRecord h a q role l g c).inbox h = {} ∧
    ∀ i, i ≠ h → (s.takeRecord h a q role l g c).record i = s.record i ∧
      (s.takeRecord h a q role l g c).inbox i = s.inbox i := by
  obtain ⟨inbox, others⟩ := enteredState_rest (s := s.loadedRecord h a q role l g c) (h := h)
  obtain ⟨inbox', others'⟩ := linkLoss_rest (s := (s.loadedRecord h a q role l g c).enteredState h) (h := h)
  have loaded (i : Head) (n : i ≠ h) : (s.loadedRecord h a q role l g c).record i = s.record i := by
    rw [State.loadedRecord, updInbox_record, purgeTrails_record, updRecord_record_ne _ _ _ _ n]
  have empty : (s.loadedRecord h a q role l g c).inbox h = {} := updInbox_inbox_same _ h _
  have kept (i : Head) (n : i ≠ h) : (s.loadedRecord h a q role l g c).inbox i = s.inbox i :=
    updInbox_inbox_ne ((s.updRecord h (takenRecord s.now a q role l g c)).purgeTrails) h i (fun _ => {}) n
  have taken : (s.takeRecord h a q role l g c).occ.inbox = (s.loadedRecord h a q role l g c).occ.inbox ∧
      ∀ i, i ≠ h → (s.takeRecord h a q role l g c).record i = (s.loadedRecord h a q role l g c).record i := by
    rw [takeRecord_eq]
    split
    · exact ⟨inbox'.trans inbox, fun i n => (others' i n).trans (others i n)⟩
    · exact ⟨inbox, others⟩
  obtain ⟨sameInbox, sameRecords⟩ := taken
  unfold State.inbox at empty kept ⊢
  rw [sameInbox]
  exact ⟨empty, fun i n => ⟨(sameRecords i n).trans (loaded i n), kept i n⟩⟩

/-- With the link UP the record enters its occupation. -/
theorem takeRecord_up (up : (s.link h).judge = .up) :
    (s.takeRecord h a q role l g c).record h =
      enteredRecord (s.headState h) s.now (takenRecord s.now a q role l g c (s.record h)) ∧
    (s.takeRecord h a q role l g c).cal = s.cal := by
  rw [takeRecord_eq, if_neg (by rw [up]; decide)]
  exact ⟨entered_record, enteredState_frame.cal (by decide)⟩

/-- With the link DOWN and a grace, its grace timer is armed as well (R5, R17). -/
theorem takeRecord_grace (down : (s.link h).judge = .down) (grace : q.linkGrace ≠ 0) :
    (s.takeRecord h a q role l g c).record h =
      { enteredRecord (s.headState h) s.now (takenRecord s.now a q role l g c (s.record h)) with
        graceTimer := some (s.now + q.linkGrace * 1000) } ∧
    (s.takeRecord h a q role l g c).cal = s.cal := by
  obtain ⟨linkGrace, _⟩ := enteredRecord_kept (s.headState h) s.now (takenRecord s.now a q role l g c (s.record h))
  have now : ((s.loadedRecord h a q role l g c).enteredState h).now = s.now := by
    unfold State.now
    rw [enteredState_frame.ctrl (by decide)]
    rfl
  rw [takeRecord_eq, if_pos down, linkLoss_grace (by rw [entered_record, linkGrace]; exact grace)]
  refine ⟨?_, enteredState_frame.cal (by decide)⟩
  rw [updRecord_record_same, entered_record, now]
  exact congrArg (fun n => { enteredRecord (s.headState h) s.now (takenRecord s.now a q role l g c (s.record h)) with
    graceTimer := some (s.now + n * 1000) }) linkGrace

/-- With the link DOWN and no grace, the occupation ends LINK_LOST at the take (R5, R17, R21, R91). -/
theorem takeRecord_lost (down : (s.link h).judge = .down) (noGrace : q.linkGrace = 0) :
    (s.takeRecord h a q role l g c).record h =
      { enteredRecord (s.headState h) s.now (takenRecord s.now a q role l g c (s.record h)) with
        state := .writing, step := some .result, outcome := some .linkLost, settleTimer := none,
        acquireTimer := none } ∧
    .result h ∈ (s.takeRecord h a q role l g c).occ.queue ∧
    ((s.takeRecord h a q role l g c).calSet c).use = (s.calSet c).use - 1 := by
  obtain ⟨linkGrace, set, graceTimer, joinFailed, _⟩ :=
    enteredRecord_kept (s.headState h) s.now (takenRecord s.now a q role l g c (s.record h))
  rw [takeRecord_eq, if_pos down, linkLoss_no_grace (by rw [entered_record, linkGrace]; exact noGrace)]
  have released := endOccupation_calSet ((s.loadedRecord h a q role l g c).enteredState h) h .linkLost
  have claimed : (((s.loadedRecord h a q role l g c).enteredState h).record h).calSet = c := by
    rw [entered_record, set]
    rfl
  have cal : ((s.loadedRecord h a q role l g c).enteredState h).cal = s.cal := enteredState_frame.cal (by decide)
  rw [claimed] at released
  refine ⟨?_, ?_, ?_⟩
  · rw [endOccupation_record, entered_record]
    generalize enteredRecord (s.headState h) s.now (takenRecord s.now a q role l g c (s.record h)) = r at *
    cases r
    cases graceTimer
    cases joinFailed
    rfl
  · rw [endOccupation_queue]
    exact List.mem_append_right _ (List.mem_singleton_self _)
  · rw [released]
    simp only [State.calSet, cal]

/-- At the end of its take a record is not IDLE. -/
theorem takeRecord_busy : ((s.takeRecord h a q role l g c).record h).state ≠ .idle := by
  obtain ⟨_, _, _, _, busy⟩ :=
    enteredRecord_kept (s.headState h) s.now (takenRecord s.now a q role l g c (s.record h))
  cases j : (s.link h).judge with
  | up =>
    rw [(takeRecord_up j).1]
    exact busy nofun
  | down =>
    by_cases grace : q.linkGrace = 0
    · rw [(takeRecord_lost j grace).1]
      exact nofun
    · rw [(takeRecord_grace j grace).1]
      exact busy nofun

end

/-- The state that a record loaded at its take enters, case by case (R4). -/
theorem enteredRecord_cases {x : HeadState} {now : Nat} {start chosen : OccRecord} (first : start.acqSeen = false)
    (unknown : x.known = false → chosen = start)
    (unsettled : x.known = true → x.judge = .unsettled → chosen = { start with state := .settling })
    (settled : x.known = true → x.judge = .settled → chosen =
      { start with state := .acquiring, settleTimer := none, acqSeen := true,
                   acquireTimer := some (now + start.acquireLimit * 1000) }) :
    enteredRecord x now start = chosen := by
  cases known : x.known with
  | false =>
    rw [unknown known]
    simp only [enteredRecord, known, Bool.false_eq_true, if_false]
  | true =>
    cases judge : x.judge with
    | unsettled =>
      rw [unsettled known judge]
      simp [enteredRecord, known, judge]
    | settled =>
      rw [settled known judge]
      simp only [enteredRecord, known, judge, if_true, acquiringRecord_eq, first, Bool.false_eq_true, if_false]

section

variable {s t : State} {h : Head} {a : Word} {q : StationRequest} {role : Role} {loop : Option LoopId}
  {g : BitVec 32} {c : SetId} {chosen : OccRecord}

/-- The record's three fates at a take, from the state before the loop check (R4, R5). -/
theorem takeRecord_fates (checked : LoopChecked role loop s t)
    (entered : enteredRecord (s.headState h) s.now (takenRecord s.now a q role loop g c (s.record h)) = chosen) :
    let v := t.takeRecord h a q role loop g c
    ((s.link h).judge = .up → v.record h = chosen ∧ v.cal = s.cal) ∧
    ((s.link h).judge = .down → q.linkGrace ≠ 0 →
      v.record h = { chosen with graceTimer := some (s.now + q.linkGrace * 1000) } ∧ v.cal = s.cal) ∧
    ((s.link h).judge = .down → q.linkGrace = 0 →
      v.record h = { chosen with state := .writing, step := some .result, outcome := some .linkLost,
                                 settleTimer := none, acquireTimer := none } ∧
      .result h ∈ v.occ.queue ∧ (v.calSet c).use = (s.calSet c).use - 1) := by
  have cal : t.cal = s.cal := checked.frame.cal (by decide)
  have set : t.calSet c = s.calSet c := by
    unfold State.calSet
    rw [cal]
  rw [← checked.headState h, ← checked.now, ← checked.record h] at entered
  rw [← checked.link h, ← checked.now, ← cal, ← set, ← entered]
  exact ⟨takeRecord_up, takeRecord_grace, takeRecord_lost⟩

end

/-! ### The look after a take (R142, R150, R154) -/

section

variable {s : State} {k : Look}

/-- With an occupation under way the stop condition does not hold (R188). -/
theorem testStop_of_busy {h : Head} (busy : (s.record h).state ≠ .idle) : s.testStop = s := by
  refine if_neg fun ⟨_, stop⟩ => busy ?_
  obtain ⟨idle, _⟩ := (stopCondition_iff s).mp stop
  exact idle h

theorem endLook_of_busy {h : Head} (busy : (s.record h).state ≠ .idle) (st : LaneState) (again : Bool) :
    s.endLook k st again = (s.updLane k.lane fun n => { n with state := st, flag := n.flag || again }).setLook none := by
  unfold State.endLook
  dsimp only
  split
  · exact testStop_of_busy (h := h) busy
  · rfl

theorem moveAnchor_lane : (s.moveAnchor k).lane k.lane =
    { s.lane k.lane with anchor := some k.candidate, state := .waiting } := updLane_lane_same s k.lane _

theorem passCandidate_ends (last : k.stopped = true ∨ k.next = 0) :
    s.passCandidate k false = (s.moveAnchor k).endLook k .waiting false := by
  by_cases stopped : k.stopped = true
  · simp [State.passCandidate, stopped]
  · have next : k.next = 0 := last.resolve_left stopped
    simp [State.passCandidate, stopped, State.candidateAt, next, moveAnchor_lane]

theorem passCandidate_aligned (going : k.stopped = false) (next : k.next ≠ 0) (aligned : k.next.toNat % 8 = 0) :
    s.passCandidate k false = (s.moveAnchor k).setLook (some
      { k with stage := .headerRead, candidate := k.next, placed := false, claim := none, request := none }) := by
  have more : ¬ k.next = 0#32 := next
  simp [State.passCandidate, going, State.candidateAt, more, aligned]

theorem passCandidate_misaligned (going : k.stopped = false) (misaligned : k.next.toNat % 8 ≠ 0) :
    s.passCandidate k false = (s.moveAnchor k).setLook (some
      { k with stage := .misaligned k.next, placed := false, claim := none, request := none }) := by
  have more : ¬ k.next = 0#32 := fun e => misaligned (by rw [e]; rfl)
  simp [State.passCandidate, going, State.candidateAt, more, misaligned]

/-- A taken sheet passed with an occupation under way: the anchor moves, and the Control Port is left as it is. -/
theorem passCandidate_of_busy {h : Head} (busy : (s.record h).state ≠ .idle) :
    (s.passCandidate k false).ctrl = s.ctrl ∧
    (s.passCandidate k false).lane k.lane = { s.lane k.lane with anchor := some k.candidate, state := .waiting } := by
  by_cases last : k.stopped = true ∨ k.next = 0
  · rw [passCandidate_ends last, endLook_of_busy (s := s.moveAnchor k) (h := h) busy]
    refine ⟨rfl, ?_⟩
    rw [setLook_lane, updLane_lane_same, moveAnchor_lane, Bool.or_false]
  · rw [not_or, Bool.not_eq_true] at last
    by_cases aligned : k.next.toNat % 8 = 0
    · rw [passCandidate_aligned last.1 last.2 aligned]
      exact ⟨rfl, moveAnchor_lane⟩
    · rw [passCandidate_misaligned last.1 aligned]
      exact ⟨rfl, moveAnchor_lane⟩

/-- Beside the Sheet Walker and the Control Port, a taken sheet passed changes nothing. -/
theorem passCandidate_rest : (s.passCandidate k false).occ = s.occ ∧ (s.passCandidate k false).cal = s.cal ∧
    (s.passCandidate k false).drift = s.drift :=
  have frame := passCandidate_frame s k false
  ⟨frame.occ (by decide), frame.cal (by decide), frame.drift (by decide)⟩

end

/-! ### TAKE (R150) -/

theorem headOfLane_castSucc (h : Head) : headOfLane h.castSucc = h := by
  revert h
  decide

section

variable {s : State} {k : Look} {q : StationRequest} {c : SetId} {role : Role}

theorem exec_take (hk : s.walker.look = some k) (stage : k.stage = .take) (hq : k.request = some q)
    (hc : k.claim = some c) (hr : roleOf q.role = some role) : exec .take s = .next (s.takeStation k q c role) := by
  simp only [exec, execTake, hk, stage, hq, hc, hr]

theorem identityMismatch_iff {h : Head} (lane : k.lane = h.castSucc) : s.identityMismatch k = true ↔
    (s.headState h).known = true ∧ (s.headState h).serial ≠ k.claimSerial := by
  simp [State.identityMismatch, lane, headOfLane_castSucc]

theorem refuseSheet_claimed (hc : k.claim = some c) (r : Reason) : s.refuseSheet k r =
    (s.updCalSet c fun x => { x with use := x.use - 1 }).setLook
      (some { k with stage := .answerWrite r, claim := none }) := by
  simp only [State.refuseSheet, State.returnClaim, hc]
  rfl

/-- A sheet whose head is of another identity is refused (R150). -/
theorem takeStation_mismatch {h : Head} (lane : k.lane = h.castSucc) (hc : k.claim = some c)
    (known : (s.headState h).known = true) (other : (s.headState h).serial ≠ k.claimSerial) :
    s.takeStation k q c role = (s.updCalSet c fun x => { x with use := x.use - 1 }).setLook
      (some { k with stage := .answerWrite .headMismatch, claim := none }) := by
  have mismatch := (identityMismatch_iff (s := s) lane).mpr ⟨known, other⟩
  simp only [State.takeStation, mismatch, if_true, refuseSheet_claimed hc]

theorem identityMismatch_of_same {h : Head} (lane : k.lane = h.castSucc)
    (same : (s.headState h).known = false ∨ (s.headState h).serial = k.claimSerial) : s.identityMismatch k = false := by
  rw [← Bool.not_eq_true, identityMismatch_iff lane, not_and_or, Bool.not_eq_true, not_ne_iff]
  exact same

/-- A sheet whose loop is not in the state that its role asks for is refused (R32 to R34). -/
theorem takeStation_unfit {l : LoopId} (identified : s.identityMismatch k = false) (hc : k.claim = some c)
    (hl : loopOfByte q.loop = some l) (refused : s.loopCheck role l = none) :
    s.takeStation k q c role = (s.updCalSet c fun x => { x with use := x.use - 1 }).setLook
      (some { k with stage := .answerWrite .loopState, claim := none }) := by
  simp only [State.takeStation, identified, Bool.false_eq_true, if_false, hl, State.sheetLoopCheck, refused,
    Option.map_none, refuseSheet_claimed hc]

theorem takeStation_accepted {h : Head} {t : State} {g : BitVec 32} (lane : k.lane = h.castSucc)
    (identified : s.identityMismatch k = false)
    (check : s.sheetLoopCheck role (loopOfByte q.loop) = some (t, g)) :
    s.takeStation k q c role = (t.takeRecord h k.candidate q role (loopOfByte q.loop) g c).passCandidate
      { k with claim := none } false := by
  simp only [State.takeStation, identified, Bool.false_eq_true, if_false, check, lane, headOfLane_castSucc]

end

/-- Settles O45: the identity check, the loop check, and the take with all that it leaves. -/
theorem takeStartsTheOccupation : Obligations.TakeStartsTheOccupation := by
  intro s k q c role h loop start chosen hk stage hq hc hr lane hloop
  subst hloop
  rw [exec_take hk stage hq hc hr]
  refine ⟨fun known other => congrArg _ (takeStation_mismatch lane hc known other), fun same l hl unfit =>
    congrArg _ (takeStation_unfit (identityMismatch_of_same lane same) hc hl (loopCheck_refused unfit)),
    fun same fits hstart unknown unsettled settled => ?_⟩
  obtain ⟨t, check, checked⟩ := sheetLoopCheck_passes fits
  rw [takeStation_accepted lane (identityMismatch_of_same lane same) check]
  have started : takenRecord s.now k.candidate q role (loopOfByte q.loop)
      (s.takeGeneration role (loopOfByte q.loop)) c (s.record h) = start := by
    rw [hstart]
    cases loopOfByte q.loop <;> rfl
  have entered := enteredRecord_cases (by rw [hstart]) unknown unsettled
    (fun known judge => (settled known judge).trans (by rw [hstart]; rfl)) (now := s.now)
  rw [← started] at entered
  obtain ⟨up, grace, lost⟩ := takeRecord_fates checked entered
  obtain ⟨emptied, others⟩ := takeRecord_rest (s := t) (h := h) (a := k.candidate) (q := q) (role := role)
    (l := loopOfByte q.loop) (g := s.takeGeneration role (loopOfByte q.loop)) (c := c)
  have before := takeRecord_frame t h k.candidate q role (loopOfByte q.loop)
    (s.takeGeneration role (loopOfByte q.loop)) c
  have busy : ((t.takeRecord h k.candidate q role (loopOfByte q.loop) (s.takeGeneration role (loopOfByte q.loop))
    c).record h).state ≠ .idle := takeRecord_busy
  generalize t.takeRecord h k.candidate q role (loopOfByte q.loop) _ c = v at *
  have after := passCandidate_frame v { k with claim := none } false
  obtain ⟨occ, cal, drift⟩ := passCandidate_rest (s := v) (k := { k with claim := none })
  obtain ⟨ctrl, anchor⟩ := passCandidate_of_busy (k := { k with claim := none }) busy
  have ends := passCandidate_ends (s := v) (k := { k with claim := none })
  have aligned := passCandidate_aligned (s := v) (k := { k with claim := none })
  have misaligned := passCandidate_misaligned (s := v) (k := { k with claim := none })
  generalize v.passCandidate { k with claim := none } false = u at *
  have driftThen : u.drift = t.drift := drift.trans (before.drift (by decide))
  have ctrlThen : u.ctrl = t.ctrl := ctrl.trans (before.ctrl (by decide))
  have loopAt (i : LoopId) : u.loopAt i = t.loopAt i := congrArg (fun d : DriftUnit => d.loops[i]) driftThen
  have record (i : Head) : u.record i = v.record i := congrArg (fun o : OccupationController => o.records[i]) occ
  have inbox (i : Head) : u.inbox i = v.inbox i := congrArg (fun o : OccupationController => o.inbox[i]) occ
  have lanes : v.lane k.lane = s.lane k.lane := congrArg (fun w : SheetWalker => w.lanes[k.lane])
    ((before.walker (by decide)).trans (checked.frame.walker (by decide)))
  have calSet : u.calSet c = v.calSet c := by
    unfold State.calSet
    rw [cal]
  refine ⟨u, rfl, ?_, ?_, ?_, (inbox h).trans emptied, fun i n => ?_, fun l hl => ?_, ?_, ?_,
    fun last => ?_, fun going next even => ?_, fun going odd => ?_, ?_⟩
  · rwa [record, cal]
  · rwa [record, cal]
  · rwa [record, occ, calSet]
  · rw [record, inbox, ← checked.record, ← checked.inbox]
    exact others i n
  · simp only [loopAt, ctrlThen]
    exact ⟨checked.opening l hl, checked.closing l hl, checked.station l hl, checked.others l hl, checked.raised l hl⟩
  · rw [driftThen, ctrlThen]
    exact checked.untouched
  · rw [← lanes]
    exact anchor
  · rw [ends last]
    exact endLook_look (s := v.moveAnchor { k with claim := none }) _ _ _
  · rw [aligned going next even]
    rfl
  · rw [misaligned going odd]
    rfl
  · exact (checked.frame.andThen (before.andThen after (cs := [.occ, .cal, .walker, .ctrl]) (by decide))
      (by decide))

end Sys2Proof.Machine
end

-- ==== Proofs of the family "survey loops and drift": commands of the Drift Unit (O38, O39, O40, O50) ====
section

namespace Sys2Proof.Machine

variable {s : State}

/-! ### Reports (R38) -/

theorem exec_landingReport {h : Head} {a : Landing} (presented : s.reportAt h = some (.landing a)) :
    exec (.landingReport h) s = .next ((s.setReport h none).landReport h a) := by
  simp only [exec, execLandingReport, presented]

theorem exec_failureReport {h : Head} (presented : s.reportAt h = some .failure) :
    exec (.failureReport h) s = .next ((s.setReport h none).failReport h) := by
  simp only [exec, execFailureReport, presented]

theorem landedEntry_eq (h : Head) (a : Landing) (e : PoolEntry) : landedEntry h a e =
    if e.phase = .reserved ∧ e.head = h then { e with phase := .held, landing := some a } else e := by
  simp only [landedEntry, isReservedOf, decide_eq_true_eq]

theorem not_isReservedOf_eq (h : Head) (e : PoolEntry) :
    (!isReservedOf h e) = decide (¬ (e.phase = .reserved ∧ e.head = h)) := (decide_not ..).symm

/-- Settles O38: the report is taken, and every list and every batch is mapped or filtered entry by entry. -/
theorem reportsReachThePool : Obligations.ReportsReachThePool := by
  intro h s
  have taken : (s.setReport h none).reportAt h = none := setReport_reportAt_same s h none
  refine ⟨fun a landing => ⟨_, exec_landingReport landing, taken, fun l => ?_, ?_, ?_⟩,
    fun failure => ⟨_, exec_failureReport failure, taken, fun l => ?_, ?_, ?_⟩⟩
  · simp only [← landedEntry_eq]
    exact mapLoops_loopAt (s.setReport h none) _ l
  · simp only [← landedEntry_eq]
    rfl
  · exact (setReport_frame s h none).andThen (landReport_frame _ h a) (by decide)
  · simp only [← not_isReservedOf_eq]
    exact mapLoops_loopAt (s.setReport h none) _ l
  · simp only [← not_isReservedOf_eq]
    rfl
  · exact (setReport_frame s h none).andThen (failReport_frame _ h) (by decide)

/-! ### The end of a loop at its span's expiry or at ABORT_LOOP (R50, R51) -/

theorem exec_spanExpiry {l : LoopId} {n : Nat} (opened : (s.loopAt l).state = .opened)
    (armed : (s.loopAt l).spanTimer = some n) (passed : n ≤ s.ctrl.elapsed.toNat) :
    exec (.spanExpiry l) s = .next (s.expireLoop l) :=
  if_pos ⟨opened, by rw [armed]; exact due_of_le passed⟩

section

variable {l : LoopId} (stage : s.order.stage = .acting .presented) (code : s.order.code = 7)
  (arg0 : s.order.arg0 = BitVec.ofNat 64 l.val)

include stage code arg0

theorem exec_abortLoop : exec .abortLoop s =
    if (s.loopAt l).state = .opened then
      .next (s.detachLoop l (.aborted (s.loopAt l).openValue (s.loopAt l).baseRef) freedLoop).orderDone
    else .next (s.orderRefused .loopState) := by
  have presented : s.orderPresented 7 = true := decide_eq_true ⟨stage, code⟩
  simp only [exec, execAbortLoop, presented, arg0, headOfArg_ofNat, if_true]

end

/-- The order as its owner leaves it when it is done, after a part that has not touched it (R162). -/
theorem orderDone_order {t : State} (same : t.order = s.order) :
    t.orderDone.order = { s.order with status := some .done, reason := .none, stage := .answerWord } := by
  rw [← same]
  rfl

/-- Settles O39: both ends detach the list and free the loop; ABORT_LOOP also decides its order. -/
theorem expiryAndAbortFreeTheLoop : Obligations.ExpiryAndAbortFreeTheLoop := by
  intro l s
  refine ⟨fun n opened armed passed => ?_, fun stage code arg0 => ⟨fun opened => ?_, fun other => ?_⟩⟩
  · exact ⟨_, exec_spanExpiry opened armed passed, detachLoop_loopAt s l _ freedLoop,
      fun i n => detachLoop_loopAt_ne s l i _ freedLoop n, detachLoop_batches s l _ freedLoop,
      detachLoop_ctrl s l _ freedLoop, expireLoop_frame s l⟩
  · have taken := exec_abortLoop stage code arg0
    rw [if_pos opened] at taken
    refine ⟨_, taken, detachLoop_loopAt s l _ freedLoop, fun i n => detachLoop_loopAt_ne s l i _ freedLoop n,
      detachLoop_batches s l _ freedLoop, detachLoop_ctrl s l _ freedLoop,
      orderDone_order ?_, (detachLoop_frame s l _ _).andThen (orderDone_frame _) (by decide)⟩
    exact (detachLoop_frame s l _ _).order (by decide)
  · rw [exec_abortLoop stage code arg0, if_neg other]
    rfl

/-! ### Finalization (R46, R48) -/

section

variable {b : Batch} {bs : List Batch} {e : PoolEntry} {es : List PoolEntry}

theorem finalEntry_eq (hb : s.drift.batches = b :: bs) (he : b.entries = e :: es) :
    s.finalEntry = some (b.kind, e) := by
  simp only [State.finalEntry, hb, he]

theorem beginFirstEntry_cons (bs : List Batch) (he : b.entries = e :: es) :
    beginFirstEntry (b :: bs) = { b with entries := { e with phase := .writing } :: es } :: bs := by
  simp only [beginFirstEntry, he]

theorem exec_finalizationEntry (hf : s.drift.finalizing = none) (hb : s.drift.batches = b :: bs)
    (he : b.entries = e :: es) : exec .finalizationEntry s =
      if e.phase = .held then
        .next { s with drift := { s.drift with
          finalizing := some .drift, batches := beginFirstEntry s.drift.batches } }
      else .next s := by
  simp only [exec, execFinalizationEntry, hf, finalEntry_eq hb he]

end

theorem finalFields_closed (e : PoolEntry) {d t v ref : Int} {t0 closeTime : Nat} {g : BitVec 32} (span : 0 < t) :
    finalFields (.closed d t v t0 ref closeTime g) e =
      ⟨.applied, roundDiv (d * ((e.midTime : Int) - t0)) t.toNat,
        e.mean - v - roundDiv (d * ((e.midTime : Int) - t0)) t.toNat + ref, true, closeTime, e.loopGen⟩ :=
  if_pos span

theorem finalFields_zeroSpan (e : PoolEntry) {d t v ref : Int} {t0 closeTime : Nat} {g : BitVec 32} (noSpan : t ≤ 0) :
    finalFields (.closed d t v t0 ref closeTime g) e =
      ⟨.zeroSpan, 0, e.mean - v + ref, true, closeTime, e.loopGen⟩ :=
  if_neg (Int.not_lt.mpr noSpan)

/-- Settles O40: the next entry, HELD or RESERVED, and the fields of each kind of batch. -/
theorem finalizationTakesTheNextEntry : Obligations.FinalizationTakesTheNextEntry := by
  refine ⟨fun s b bs e es hf hb he => ?_, fun e d t v ref t0 closeTime g =>
    ⟨finalFields_closed e, finalFields_zeroSpan e, rfl, rfl, rfl, rfl⟩⟩
  rw [exec_finalizationEntry hf hb he]
  refine ⟨fun held => ?_, fun reserved => ?_⟩
  · rw [if_pos held, hb, beginFirstEntry_cons bs he]
  · exact if_neg (by rw [reserved]; decide)

/-! ### The second part of CANCEL (R52, R170) -/

theorem holdsSheet_iff {a : Nat} {e : PoolEntry} :
    holdsSheet a e = true ↔ ∃ l, e.landing = some l ∧ l.sheet.toNat = a := by
  unfold holdsSheet
  split <;> simp [*]

theorem mem_loopIds (l : LoopId) : l ∈ loopIds := by
  revert l
  decide

section

variable {a : Nat} {l : LoopId}

theorem loopHolding_eq_some {e : PoolEntry} (listed : e ∈ (s.loopAt l).pending) (held : e.phase = .held)
    (holds : holdsSheet a e = true) (only : ∀ i, i ≠ l → ∀ y ∈ (s.loopAt i).pending, holdsSheet a y = false) :
    s.loopHolding a = some l := by
  cases found : s.loopHolding a with
  | none =>
    have unlisted := List.find?_eq_none.mp found l (mem_loopIds l)
    exact absurd (List.any_eq_true.mpr ⟨e, listed, by simp [holds, held]⟩) unlisted
  | some i =>
    unfold State.loopHolding at found
    have here := List.find?_some found
    obtain ⟨y, listed', holds'⟩ := List.any_eq_true.mp here
    have same : i = l := by
      by_contra other
      simp [only i other y listed'] at holds'
    rw [same]

theorem loopHolding_eq_none (no : ∀ i, ∀ y ∈ (s.loopAt i).pending, holdsSheet a y = false) :
    s.loopHolding a = none := by
  refine List.find?_eq_none.mpr fun i _ holds => ?_
  obtain ⟨y, listed, holds'⟩ := List.any_eq_true.mp holds
  simp [no i y listed] at holds'

theorem batchHolding_iff : s.batchHolding a = true ↔
    ∃ b ∈ s.drift.batches, ∃ e ∈ b.entries, holdsSheet a e = true := by
  simp only [State.batchHolding, List.any_eq_true]

theorem withdraw_loopAt : (s.withdraw l a).loopAt l =
    { s.loopAt l with pending := (s.loopAt l).pending.filter fun e => !holdsSheet a e } :=
  (addBatch_loopAt _ _ _ l).trans (updLoop_loopAt_same s l _)

theorem withdraw_loopAt_ne {i : LoopId} (n : i ≠ l) : (s.withdraw l a).loopAt i = s.loopAt i :=
  (addBatch_loopAt _ _ _ i).trans (updLoop_loopAt_ne s l i _ n)

theorem withdraw_batches : (s.withdraw l a).drift.batches =
    if (s.loopAt l).pending.filter (holdsSheet a) = [] then s.drift.batches
    else s.drift.batches ++ [⟨.withdrawn, (s.loopAt l).pending.filter (holdsSheet a)⟩] := addBatch_batches _ _ _

end

section

variable (stage : s.order.stage = .acting .withdrawal) (taken : ∀ h, s.reportAt h = none)

include stage taken

theorem exec_cancelWithdrawal_listed {l : LoopId} (found : s.loopHolding s.order.arg0.toNat = some l) :
    exec .cancelWithdrawal s = .next (s.withdraw l s.order.arg0.toNat).orderDone := by
  simp [exec, execCancelWithdrawal, stage, taken, found]

theorem exec_cancelWithdrawal_unlisted (found : s.loopHolding s.order.arg0.toNat = none) :
    exec .cancelWithdrawal s = .next (s.orderRefused
      (if s.batchHolding s.order.arg0.toNat then .alreadyEnded else .notFound)) := by
  simp only [exec, execCancelWithdrawal, stage, taken, found, implies_true, and_self, if_true]
  split <;> rfl

end

/-- Settles O50: the entry on a list, HELD; in a batch; nowhere. -/
theorem cancelAtTheDriftUnit : Obligations.CancelAtTheDriftUnit := by
  intro s has stage taken hhas
  obtain rfl : has = holdsSheet s.order.arg0.toNat :=
    funext fun e => Bool.eq_iff_iff.mpr ((hhas e).trans holdsSheet_iff.symm)
  refine ⟨fun l e listed held holds only => ?_, fun unlisted => ?_⟩
  · have found := loopHolding_eq_some listed held holds only
    refine ⟨_, exec_cancelWithdrawal_listed stage taken found, withdraw_loopAt, fun i n => withdraw_loopAt_ne n, ?_,
      orderDone_order ((withdraw_frame s l _).order (by decide)),
      (withdraw_frame s l _).andThen (orderDone_frame _) (by decide)⟩
    have picked : (s.loopAt l).pending.filter (holdsSheet s.order.arg0.toNat) ≠ [] :=
      List.ne_nil_of_mem (List.mem_filter.mpr ⟨listed, holds⟩)
    exact withdraw_batches.trans (if_neg picked)
  · have refused := exec_cancelWithdrawal_unlisted stage taken (loopHolding_eq_none unlisted)
    refine ⟨fun inBatch => ?_, fun nowhere => ?_⟩
    · rw [refused, if_pos (batchHolding_iff.mpr inBatch)]
      rfl
    · rw [refused, if_neg]
      · rfl
      · intro inBatch
        obtain ⟨b, hb, e, he, holds⟩ := batchHolding_iff.mp inBatch
        simp [nowhere b hb e he] at holds

end Sys2Proof.Machine
end

-- ==== Proofs of the family "survey loops and drift": what an event makes of the Drift Unit (O41, O42) ====
section
/-! O41, O42: one list of what an event can make of the loop table and the batches (`DriftMove`), one lemma for each
operation that touches them, and each invariant read off the list. -/

namespace Sys2Proof.Machine

/-! ### The moves of the Drift Unit -/

/-- The entries in use of a Drift Unit (R35). -/
def DriftUnit.entriesUsed (d : DriftUnit) : Nat := d.pendingEntries + d.batchEntries

theorem poolUsed_eq (s : State) : s.poolUsed = s.drift.entriesUsed := rfl

/-- Every loop but `l` is as it was. -/
def othersKept (l : LoopId) (d d' : DriftUnit) : Prop := ∀ i : LoopId, i ≠ l → d'.loops[i] = d.loops[i]

/-- What one event can make of the loop table and the batches (02). -/
inductive DriftMove (d d' : DriftUnit) : Prop where
  /-- neither is touched -/
  | kept (loops : d'.loops = d.loops) (batches : d'.batches = d.batches)
  /-- a reset (R30) -/
  | cleared (loops : ∀ l : LoopId, d'.loops[l] = {}) (batches : d'.batches = [])
  /-- loop `l` takes a state that is not FREE, with its span timer as that state has it, and keeps its list (R32, R33,
  R39, R43) -/
  | restated (l : LoopId) (taken : d'.loops[l].state ≠ .free)
      (timed : d'.loops[l].spanTimer ≠ none ↔ d'.loops[l].state = .opened)
      (list : d'.loops[l].pending = d.loops[l].pending) (others : othersKept l d d') (batches : d'.batches = d.batches)
  /-- an entry joins the list of a loop that is not FREE, with room in the pool (R36) -/
  | reserved (l : LoopId) (e : PoolEntry) (room : d.entriesUsed < 64) (taken : d.loops[l].state ≠ .free)
      (loop : d'.loops[l] = { d.loops[l] with pending := d.loops[l].pending ++ [e] }) (others : othersKept l d d')
      (batches : d'.batches = d.batches)
  /-- the list of loop `l` is detached as a batch (R45) -/
  | detached (l : LoopId) (k : BatchKind) (shape : loopShape d'.loops[l]) (emptied : d'.loops[l].pending = [])
      (others : othersKept l d d') (batches : d'.batches =
        if d.loops[l].pending = [] then d.batches else d.batches ++ [⟨k, d.loops[l].pending⟩])
  /-- the entries that `has` picks leave the list of loop `l` as a batch (R52) -/
  | withdrawn (l : LoopId) (has : PoolEntry → Bool)
      (loop : d'.loops[l] = { d.loops[l] with pending := d.loops[l].pending.filter fun e => !has e })
      (others : othersKept l d d') (batches : d'.batches =
        if d.loops[l].pending.filter has = [] then d.batches
        else d.batches ++ [⟨.withdrawn, d.loops[l].pending.filter has⟩])
  /-- entries change in place (R38) -/
  | landed (f : PoolEntry → PoolEntry)
      (loops : ∀ l : LoopId, d'.loops[l] = { d.loops[l] with pending := d.loops[l].pending.map f })
      (batches : d'.batches = d.batches.map fun b => { b with entries := b.entries.map f })
  /-- entries become free, and with its last entry a batch is gone (R38, R45) -/
  | failed (keep : PoolEntry → Bool)
      (loops : ∀ l : LoopId, d'.loops[l] = { d.loops[l] with pending := d.loops[l].pending.filter keep })
      (batches : d'.batches =
        (d.batches.map fun b => { b with entries := b.entries.filter keep }).filter fun b => !b.entries.isEmpty)
  /-- the first entry of the oldest batch becomes WRITING (R48) -/
  | begun (loops : d'.loops = d.loops) (batches : d'.batches = beginFirstEntry d.batches)
  /-- the first entry of the oldest batch becomes free (R48) -/
  | ended (loops : d'.loops = d.loops) (batches : d'.batches = dropFirstEntry d.batches)

theorem driftMove_self (d : DriftUnit) : DriftMove d d := .kept rfl rfl

theorem driftMove_of_drift {s t : State} (h : t.drift = s.drift) : DriftMove s.drift t.drift := by
  rw [h]
  exact driftMove_self _

/-- What comes after the Drift Unit's part of an event leaves it. -/
theorem DriftMove.before {d : DriftUnit} {t u : State} (h : DriftMove d t.drift) (same : u.drift = t.drift) :
    DriftMove d u.drift := by
  rw [same]
  exact h

/-! ### Every move keeps the shape of the loops (R30, R49) -/

theorem loopShape_freed (g : BitVec 32) : loopShape { generation := g } := ⟨fun _ => rfl, by simp⟩

theorem loopShape_of_taken {x : Loop} (taken : x.state ≠ .free) (timed : x.spanTimer ≠ none ↔ x.state = .opened) :
    loopShape x := ⟨fun free => absurd free taken, timed⟩

/-- The shape does not tell of the list, but that it is empty in FREE. -/
theorem loopShape.withPending {x : Loop} (shape : loopShape x) {ps : List PoolEntry}
    (empty : x.state = .free → x.pending = [] → ps = []) : loopShape { x with pending := ps } := by
  refine ⟨fun free => ?_, shape.2⟩
  have same : x = { generation := x.generation } := shape.1 free
  rw [empty free (by rw [same]), same]

theorem DriftMove.keeps_loopShape {d d' : DriftUnit} (move : DriftMove d d')
    (shaped : ∀ l : LoopId, loopShape d.loops[l]) (i : LoopId) : loopShape d'.loops[i] := by
  have atLoop (l : LoopId) (others : othersKept l d d') (named : loopShape d'.loops[l]) :
      loopShape d'.loops[i] := by
    by_cases e : i = l
    · rw [e]
      exact named
    · rw [others i e]
      exact shaped i
  cases move with
  | kept loops _ =>
    rw [loops]
    exact shaped i
  | cleared loops _ =>
    rw [loops i]
    exact loopShape_freed 0
  | restated l taken timed _ others _ => exact atLoop l others (loopShape_of_taken taken timed)
  | reserved l e _ taken loop others _ =>
    refine atLoop l others ?_
    rw [loop]
    exact (shaped l).withPending fun free => absurd free taken
  | detached l _ shape _ others _ => exact atLoop l others shape
  | withdrawn l has loop others _ =>
    refine atLoop l others ?_
    rw [loop]
    exact (shaped l).withPending fun _ empty => by rw [empty, List.filter_nil]
  | landed f loops _ =>
    rw [loops i]
    exact (shaped i).withPending fun _ empty => by rw [empty, List.map_nil]
  | failed keep loops _ =>
    rw [loops i]
    exact (shaped i).withPending fun _ empty => by rw [empty, List.filter_nil]
  | begun loops _ =>
    rw [loops]
    exact shaped i
  | ended loops _ =>
    rw [loops]
    exact shaped i

/-! ### Every move keeps the bound of the pool (R35) -/

theorem pendingEntries_eq (d : DriftUnit) : d.pendingEntries = d.loops[(0 : LoopId)].pending.length +
    d.loops[(1 : LoopId)].pending.length + d.loops[(2 : LoopId)].pending.length +
      d.loops[(3 : LoopId)].pending.length := by
  simp only [DriftUnit.pendingEntries, loopIds, List.map_cons, List.map_nil, List.sum_cons, List.sum_nil]
  omega

/-- The entries on the lists change by what the list of the one loop changes by. -/
theorem pendingEntries_of_others {l : LoopId} {d d' : DriftUnit} (others : othersKept l d d') :
    d'.pendingEntries + d.loops[l].pending.length = d.pendingEntries + d'.loops[l].pending.length := by
  have same (i : LoopId) (n : i ≠ l) : d'.loops[i].pending.length = d.loops[i].pending.length := by rw [others i n]
  rw [pendingEntries_eq, pendingEntries_eq]
  match l, same with
  | 0, same => rw [same 1 (by decide), same 2 (by decide), same 3 (by decide)]; omega
  | 1, same => rw [same 0 (by decide), same 2 (by decide), same 3 (by decide)]; omega
  | 2, same => rw [same 0 (by decide), same 1 (by decide), same 3 (by decide)]; omega
  | 3, same => rw [same 0 (by decide), same 1 (by decide), same 2 (by decide)]; omega

theorem pendingEntries_le {d d' : DriftUnit}
    (le : ∀ l : LoopId, d'.loops[l].pending.length ≤ d.loops[l].pending.length) :
    d'.pendingEntries ≤ d.pendingEntries := List.sum_le_sum fun l _ => le l

/-- The entries of a list of batches. -/
def entriesIn (bs : List Batch) : Nat := (bs.map fun b => b.entries.length).sum

theorem batchEntries_eq (d : DriftUnit) : d.batchEntries = entriesIn d.batches := rfl

@[simp] theorem entriesIn_nil : entriesIn [] = 0 := rfl

@[simp] theorem entriesIn_cons (b : Batch) (bs : List Batch) :
    entriesIn (b :: bs) = b.entries.length + entriesIn bs := List.sum_cons

/-- A batch that joins the queue brings its entries; one without entries is not formed (R45). -/
theorem entriesIn_joined (bs : List Batch) (k : BatchKind) (es : List PoolEntry) :
    entriesIn (if es = [] then bs else bs ++ [⟨k, es⟩]) = entriesIn bs + es.length := by
  split
  · simp [*]
  · simp [entriesIn]

theorem entriesIn_beginFirstEntry (bs : List Batch) : entriesIn (beginFirstEntry bs) = entriesIn bs := by
  unfold beginFirstEntry
  split
  · rfl
  · split <;> simp [*]

theorem entriesIn_dropFirstEntry (bs : List Batch) : entriesIn (dropFirstEntry bs) ≤ entriesIn bs := by
  unfold dropFirstEntry
  split
  · exact Nat.le_refl _
  · split <;> simp [*]

theorem entriesIn_map_le {f : Batch → Batch} (bs : List Batch)
    (le : ∀ b, (f b).entries.length ≤ b.entries.length) : entriesIn (bs.map f) ≤ entriesIn bs := by
  unfold entriesIn
  rw [List.map_map]
  exact List.sum_le_sum fun b _ => le b

theorem entriesIn_filter_le (p : Batch → Bool) (bs : List Batch) : entriesIn (bs.filter p) ≤ entriesIn bs :=
  (List.filter_sublist.map _).sum_le_sum fun _ _ => Nat.zero_le _

theorem DriftMove.keeps_bound {d d' : DriftUnit} (move : DriftMove d d') (bounded : d.entriesUsed ≤ 64) :
    d'.entriesUsed ≤ 64 := by
  unfold DriftUnit.entriesUsed at *
  rw [batchEntries_eq] at *
  cases move with
  | kept loops batches =>
    rw [batches]
    exact (Nat.add_le_add_right (pendingEntries_le fun l => by rw [loops]) _).trans bounded
  | cleared loops batches =>
    simp [pendingEntries_eq, loops, batches]
  | restated l _ _ list others batches =>
    have lists := pendingEntries_of_others others
    rw [list] at lists
    rw [batches]
    omega
  | reserved l e room _ loop others batches =>
    have lists := pendingEntries_of_others others
    rw [loop, List.length_append, List.length_singleton] at lists
    unfold DriftUnit.entriesUsed at room
    rw [batchEntries_eq] at room
    rw [batches]
    omega
  | detached l k _ emptied others batches =>
    have lists := pendingEntries_of_others others
    rw [emptied, List.length_nil] at lists
    rw [batches, entriesIn_joined]
    omega
  | withdrawn l has loop others batches =>
    have lists := pendingEntries_of_others others
    have parts := List.length_eq_length_filter_add (l := d.loops[l].pending) has
    rw [loop] at lists
    dsimp only at lists
    rw [batches, entriesIn_joined]
    omega
  | landed f loops batches =>
    have lists := pendingEntries_le (d := d) (d' := d') fun l => by rw [loops l, List.length_map]
    have inBatches := entriesIn_map_le (f := fun b => { b with entries := b.entries.map f }) d.batches
      fun b => (List.length_map f).le
    rw [batches]
    omega
  | failed keep loops batches =>
    have lists := pendingEntries_le (d := d) (d' := d') fun l => by
      rw [loops l]
      exact List.length_filter_le keep _
    have inBatches := (entriesIn_filter_le (fun b => !b.entries.isEmpty) _).trans
      (entriesIn_map_le (f := fun b => { b with entries := b.entries.filter keep }) d.batches
        fun b => List.length_filter_le keep _)
    rw [batches]
    omega
  | begun loops batches =>
    have lists := pendingEntries_le (d := d) (d' := d') fun l => by rw [loops]
    rw [batches, entriesIn_beginFirstEntry]
    omega
  | ended loops batches =>
    have lists := pendingEntries_le (d := d) (d' := d') fun l => by rw [loops]
    have inBatches := entriesIn_dropFirstEntry d.batches
    rw [batches]
    omega

/-! ### The operations of the Drift Unit are moves -/

section

variable (s : State)

theorem updLoop_othersKept (l : LoopId) (f : Loop → Loop) : othersKept l s.drift (s.updLoop l f).drift :=
  fun i n => updLoop_loopAt_ne s l i f n

/-- The change of a loop that keeps its list. -/
theorem updLoop_restated (l : LoopId) {f : Loop → Loop} (taken : (f (s.loopAt l)).state ≠ .free)
    (timed : (f (s.loopAt l)).spanTimer ≠ none ↔ (f (s.loopAt l)).state = .opened)
    (list : (f (s.loopAt l)).pending = (s.loopAt l).pending) : DriftMove s.drift (s.updLoop l f).drift := by
  have named : (s.updLoop l f).drift.loops[l] = f (s.loopAt l) := updLoop_loopAt_same s l f
  exact .restated l (by rwa [named]) (by rwa [named]) (by rwa [named]) (updLoop_othersKept s l f) rfl

theorem detachLoop_detached (l : LoopId) (k : BatchKind) {f : Loop → Loop}
    (shape : loopShape { f (s.loopAt l) with pending := [] }) : DriftMove s.drift (s.detachLoop l k f).drift := by
  have named : (s.detachLoop l k f).drift.loops[l] = { f (s.loopAt l) with pending := [] } :=
    detachLoop_loopAt s l k f
  exact .detached l k (by rwa [named]) (by rw [named]) (fun i n => detachLoop_loopAt_ne s l i k f n)
    (detachLoop_batches s l k f)

/-- A loop that is freed keeps its generation alone. -/
theorem detachLoop_freed (l : LoopId) (k : BatchKind) : DriftMove s.drift (s.detachLoop l k freedLoop).drift :=
  detachLoop_detached s l k (loopShape_freed _)

/-- A loop past its span is reopened and expired in one event: of the table, it is detached (R43). -/
theorem reopenLoop_driftMove (l : LoopId) : DriftMove s.drift (s.reopenLoop l).drift := by
  unfold State.reopenLoop
  dsimp only
  split
  · set reopened := (s.updLoop l fun x => { x with state := .opened }).raise .loop
    have others : othersKept l s.drift reopened.drift :=
      updLoop_othersKept s l fun x => { x with state := .opened }
    have list : (reopened.loopAt l).pending = (s.loopAt l).pending := by
      rw [raise_loopAt, updLoop_loopAt_same]
    have named : (reopened.expireLoop l).drift.loops[l] = { generation := (reopened.loopAt l).generation } :=
      detachLoop_loopAt reopened l _ freedLoop
    refine .detached l (.expired (reopened.loopAt l).openValue (reopened.loopAt l).baseRef) ?_ ?_ (fun i n => ?_) ?_
    · rw [named]
      exact loopShape_freed _
    · rw [named]
    · exact (detachLoop_loopAt_ne reopened l i _ freedLoop n).trans (others i n)
    · exact (detachLoop_batches reopened l _ freedLoop).trans (by rw [list]; rfl)
  · exact updLoop_restated s l (f := fun x =>
      { x with state := .opened, spanTimer := some (s.spanExpiryAt (s.loopAt l).openElapsed) }) (by simp) (by simp) rfl

theorem joinStation_driftMove (h : Head) (l : LoopId) (r : OccRecord) :
    DriftMove s.drift (s.joinStation h l r).1.drift := by
  unfold State.joinStation
  split
  · exact driftMove_self _
  · split
    · exact driftMove_self _
    · split
      · exact driftMove_self _
      · rename_i taken
        split
        · exact driftMove_self _
        · rename_i space
          have room : s.poolUsed < 64 := Nat.not_le.mp fun full => space (poolFree_eq_zero.mpr full)
          exact .reserved l (reservedEntry h r) room taken (updLoop_loopAt_same s l _) (updLoop_othersKept s l _) rfl

theorem joinOpen_driftMove (l : LoopId) (r : OccRecord) : DriftMove s.drift (s.joinOpen l r).1.drift := by
  unfold State.joinOpen
  split
  · exact updLoop_restated s l (by simp [State.anchoredLoop]) (by simp [State.anchoredLoop]) rfl
  · exact detachLoop_freed s l _

theorem joinClose_driftMove (turn : Bool) (l : LoopId) (r : OccRecord) :
    DriftMove s.drift (s.joinClose turn l r).1.drift := by
  unfold State.joinClose
  dsimp only
  split
  · cases turn with
    | false => exact detachLoop_freed s l _
    | true =>
      exact detachLoop_detached s l _ (loopShape_of_taken (by simp [State.turnedLoop, State.anchoredLoop])
        (by simp [State.turnedLoop, State.anchoredLoop]))
  · exact reopenLoop_driftMove s l

theorem joinOf_driftMove (h : Head) (r : OccRecord) : DriftMove s.drift (s.joinOf h r).1.drift := by
  unfold State.joinOf
  split
  · exact driftMove_self _
  · split
    · exact joinStation_driftMove s h _ r
    · exact joinOpen_driftMove s _ r
    · exact joinClose_driftMove s _ _ r
    · exact joinClose_driftMove s _ _ r

theorem landReport_driftMove (h : Head) (l : Landing) :
    DriftMove s.drift ((s.setReport h none).landReport h l).drift :=
  .landed (landedEntry h l) (fun i => mapLoops_loopAt (s.setReport h none) _ i) rfl

theorem failReport_driftMove (h : Head) : DriftMove s.drift ((s.setReport h none).failReport h).drift :=
  .failed (fun e => !isReservedOf h e) (fun i => mapLoops_loopAt (s.setReport h none) _ i) rfl

theorem withdraw_driftMove (l : LoopId) (a : Nat) : DriftMove s.drift (s.withdraw l a).drift :=
  .withdrawn l (holdsSheet a) withdraw_loopAt (fun _ n => withdraw_loopAt_ne n) withdraw_batches

theorem driftOkay_driftMove : DriftMove s.drift s.driftOkay.drift := by
  unfold State.driftOkay
  split
  · exact driftMove_self _
  · exact .kept rfl rfl
  · exact .ended rfl rfl

theorem driftFault_driftMove : DriftMove s.drift s.driftFault.drift := by
  unfold State.driftFault
  split
  · exact driftMove_self _
  · exact .ended rfl rfl

/-- The loop check of a take changes the state of a base's loop alone (R32, R33). -/
theorem loopCheck_driftMove {role : Role} {l : LoopId} {t : State} (h : s.loopCheck role l = some t) :
    DriftMove s.drift t.drift := by
  unfold State.loopCheck at h
  split at h
  · cases h
    exact updLoop_restated s l (f := openingLoop) (by simp [openingLoop]) (by simp [openingLoop]) rfl
  · cases h
    exact updLoop_restated s l (f := closingLoop) (by simp [closingLoop]) (by simp [closingLoop]) rfl
  · cases h
    exact updLoop_restated s l (f := closingLoop) (by simp [closingLoop]) (by simp [closingLoop]) rfl
  all_goals cases h
  all_goals exact driftMove_self _

theorem sheetLoopCheck_driftMove {role : Role} {loop : Option LoopId} {t : State} {g : BitVec 32}
    (h : s.sheetLoopCheck role loop = some (t, g)) : DriftMove s.drift t.drift := by
  unfold State.sheetLoopCheck at h
  split at h
  · cases h
    exact driftMove_self _
  · obtain ⟨u, checked, e⟩ := Option.map_eq_some_iff.mp h
    cases e
    exact loopCheck_driftMove s checked

theorem takeStation_driftMove (k : Look) (q : StationRequest) (c : SetId) (role : Role) :
    DriftMove s.drift (s.takeStation k q c role).drift := by
  unfold State.takeStation
  split
  · exact driftMove_of_drift ((refuseSheet_frame s k _).drift (by decide))
  · split
    · exact driftMove_of_drift ((refuseSheet_frame s k _).drift (by decide))
    · rename_i t g checked
      exact (sheetLoopCheck_driftMove s checked).before
        (((takeRecord_frame t _ _ _ _ _ _ _).andThen (passCandidate_frame _ _ _)
          (cs := [.occ, .cal, .walker, .ctrl]) (by decide)).drift (by decide))

/-! ### Answers at the port: a report presented and a directory loaded leave the table and the batches (R38, R187) -/

theorem reportIfProvisional_driftMove (h : Head) (p : Report) :
    DriftMove s.drift (s.reportIfProvisional h p).drift := by
  unfold State.reportIfProvisional
  split <;> exact .kept rfl rfl

theorem occOkay_driftMove : DriftMove s.drift s.occOkay.drift := by
  unfold State.occOkay
  split
  · exact driftMove_self _
  · split <;> exact driftMove_self _
  · exact driftMove_self _
  · exact driftMove_self _
  · exact driftMove_self _
  · exact (reportIfProvisional_driftMove (s.setIssued none) _ _).before
      ((recordIdle_frame (State.raise _ _) _).drift (by decide))

theorem occFault_driftMove : DriftMove s.drift s.occFault.drift := by
  unfold State.occFault
  split
  · exact driftMove_self _
  · split <;> exact driftMove_self _
  · exact driftMove_self _
  · exact driftMove_self _
  · exact (reportIfProvisional_driftMove (s.setIssued none) _ _).before ((recordIdle_frame _ _).drift (by decide))
  · exact (reportIfProvisional_driftMove (s.setIssued none) _ _).before ((recordIdle_frame _ _).drift (by decide))

/-- Of a directory, the Drift Unit loads the loop span limit (R187). -/
theorem loadDirectory_drift (d : Directory) :
    (s.loadDirectory d).drift = { s.drift with spanLimit := d.spanLimit } :=
  (requestRefresh_frame _).drift (by decide)

theorem controlOkay_driftMove (ws : List Word) : DriftMove s.drift (s.controlOkay ws).drift := by
  unfold State.controlOkay
  split
  · unfold State.directoryAnswered
    split
    · exact driftMove_of_drift ((enterFaulted_frame s _).drift (by decide))
    · refine DriftMove.before ?_ ((adoptTable_frame _ _ _).drift (by decide))
      rw [loadDirectory_drift]
      exact .kept rfl rfl
  · exact driftMove_of_drift ((refreshOkay_frame s).drift (by decide))
  · exact driftMove_of_drift ((refreshOkay_frame s).drift (by decide))

theorem requesterOkay_driftMove (r : Requester) (ws : List Word) :
    DriftMove s.drift (s.requesterOkay r ws).drift := by
  unfold State.requesterOkay
  split
  · exact driftMove_of_drift ((walkerOkay_frame s ws).drift (by decide))
  · exact driftMove_of_drift ((orderOkay_frame s ws).drift (by decide))
  · exact driftMove_of_drift ((tideOkay_frame s ws).drift (by decide))
  · exact occOkay_driftMove s
  · exact driftOkay_driftMove s
  · exact controlOkay_driftMove s ws

theorem requesterFault_driftMove (r : Requester) (k : FaultKind) :
    DriftMove s.drift (s.requesterFault r k).drift := by
  unfold State.requesterFault
  split
  · exact driftMove_of_drift ((walkerFault_frame s).drift (by decide))
  · exact driftMove_of_drift ((orderFault_frame s k).drift (by decide))
  · exact driftMove_of_drift ((tideFault_frame s k).drift (by decide))
  · exact occFault_driftMove s
  · exact driftFault_driftMove s
  · exact driftMove_of_drift ((controlFault_frame s).drift (by decide))

theorem portFault_driftMove (r : Requester) (d : Direction) (a : Nat) (k : FaultKind) :
    DriftMove s.drift (s.portFault r d a k).drift := requesterFault_driftMove (s.recordFault r d a k) r k

theorem formGrant_driftMove (n : Fin 6) (x : Transfer) : DriftMove s.drift (s.formGrant n x).drift := by
  unfold State.formGrant
  dsimp only
  split
  · exact driftMove_self _
  · exact portFault_driftMove { s with port := { s.port with pointer := n } } _ _ _ _

theorem grantOkay_driftMove (g : Grant) (data : List Word) : DriftMove s.drift (s.grantOkay g data).drift := by
  unfold State.grantOkay
  dsimp only
  split
  · exact driftMove_self _
  · split
    · exact requesterOkay_driftMove ((s.setGrant none).setSlot g.requester none) _ _
    · exact driftMove_self _

theorem grantRetry_driftMove (g : Grant) : DriftMove s.drift (s.grantRetry g).drift := by
  unfold State.grantRetry
  split
  · exact driftMove_self _
  · exact portFault_driftMove (s.setGrant none) _ _ _ _

end

/-! ### Every command is a move -/

/-- A command that touches the Drift Unit makes one move; the others leave it, by their frame. -/
theorem exec_driftMove (c : Instr) (s : State) : answersOnly (fun t => DriftMove s.drift t.drift) (exec c s) := by
  have idle : answersOnly (fun t => DriftMove s.drift t.drift) (.next s) := answersOnly_next (driftMove_self _)
  have cleared {t : State} (h : t.drift = {}) : DriftMove s.drift t.drift := by
    rw [h]
    exact .cleared reset_loopAt rfl
  by_cases touches : Block.drift ∈ mayChange c
  · cases c with
    | powerOnReset => exact answersOnly_next (cleared rfl)
    | reset w => exact answersOnly_next (cleared rfl)
    | grant =>
      simp only [exec, execGrant]
      split
      · split
        · exact idle
        · split
          · exact idle
          · exact answersOnly_next (formGrant_driftMove s _ _)
      · exact idle
    | busAnswer a =>
      simp only [exec, execBusAnswer]
      split
      · exact idle
      · split
        · exact answersOnly_next (driftMove_of_drift ((discardedAnswer_frame s).drift (by decide)))
        · split
          · split
            · exact answersOnly_next (grantOkay_driftMove s _ _)
            · exact idle
          · exact answersOnly_next (grantRetry_driftMove s _)
          · exact answersOnly_next (portFault_driftMove (s.setGrant none) _ _ _ _)
    | join h =>
      simp only [exec, execJoin]
      split
      · exact answersOnly_next ((joinOf_driftMove s h _).before joinAnswered_drift)
      · exact idle
    | landingReport h =>
      simp only [exec, execLandingReport]
      split
      · exact answersOnly_next (landReport_driftMove s h _)
      · exact idle
      · exact idle
    | failureReport h =>
      simp only [exec, execFailureReport]
      split
      · exact answersOnly_next (failReport_driftMove s h)
      · exact idle
      · exact idle
    | spanExpiry l =>
      simp only [exec, execSpanExpiry]
      split
      · exact answersOnly_next (detachLoop_freed s l _)
      · exact idle
    | finalizationEntry =>
      simp only [exec, execFinalizationEntry]
      split
      · split
        · exact answersOnly_next (.begun rfl rfl)
        · exact idle
      · exact idle
    | take =>
      simp only [exec, execTake]
      split
      · exact idle
      · split
        · split
          · exact idle
          · exact answersOnly_next (takeStation_driftMove s _ _ _ _)
        · exact idle
    | cancelWithdrawal =>
      simp only [exec, execCancelWithdrawal]
      split
      · split
        · exact answersOnly_next (withdraw_driftMove s _ _)
        · split <;> exact answersOnly_next (driftMove_self _)
      · exact idle
    | abortLoop =>
      simp only [exec, execAbortLoop]
      split
      · split
        · exact answersOnly_next (detachLoop_freed s _ _)
        · exact answersOnly_next (driftMove_self _)
      · exact idle
    | _ => simp [mayChange] at touches
  · exact fun t e => driftMove_of_drift ((frame_of_exec e).drift touches)

theorem step_driftMove {s t : State} (h : step s = .next t) : DriftMove s.drift t.drift := by
  rcases step_cases h with ⟨_, rfl⟩ | ⟨c, rest, _, taken⟩
  · exact driftMove_self _
  · exact exec_driftMove c { s with pending := rest } t taken

/-- Settles O41: a step is a move of the Drift Unit, and every move keeps the shape of each loop. -/
theorem loopsKeepTheirShape : Obligations.LoopsKeepTheirShape :=
  fun _ _ shaped h => (step_driftMove h).keeps_loopShape shaped

/-- Settles O42: a step is a move of the Drift Unit, and every move keeps the bound; only a reservation adds an entry, and
it finds room. -/
theorem poolStaysBounded : Obligations.PoolStaysBounded :=
  fun _ _ bounded h => (step_driftMove h).keeps_bound bounded

end Sys2Proof.Machine
end

-- ==== Proofs of the family "sample intake and settling": one sample (O22) ====
section
/-! SUPPORT. What the tests on one sample say (R60, R62, R63), and what the settle judge makes of a judged sample, one
equation for each row of its table (R64). -/

namespace Sys2Proof.Machine

section

variable {x : HeadState} {smp : Sample}

/-! ### The tests (R60 to R63) -/

theorem flagged_iff : smp.flagged = true ↔ smp.flags.getLsbD 0 = true ∨ smp.flags.getLsbD 1 = true :=
  Bool.or_eq_true_iff

theorem tiltWithin_iff {tol : Nat} : tiltWithin x smp tol = true ↔
    (smp.tiltX - x.levelX).natAbs ≤ tol ∧ (smp.tiltY - x.levelY).natAbs ≤ tol := decide_eq_true_iff

theorem stepWithin_iff : stepWithin x smp = true ↔
    (x.tempStep ≠ 0 → ∀ p, x.prevTemp = some p → (smp.temperature - p).natAbs ≤ x.tempStep) := by
  unfold stepWithin
  cases x.prevTemp with
  | none => simp
  | some p => simp [or_iff_not_imp_left]

theorem isSteady_iff : isSteady x smp = true ↔
    tiltWithin x smp x.tolIn = true ∧ stepWithin x smp = true := Bool.and_eq_true_iff

theorem isLevel_iff : isLevel x smp = true ↔
    tiltWithin x smp x.tolOut = true ∧ stepWithin x smp = true := Bool.and_eq_true_iff

theorem gatesPass_iff {k : CalContents} : gatesPass k x smp = true ↔
    (k.cntMin ≤ smp.counts ∧ smp.counts ≤ k.cntMax) ∧ tiltWithin x smp k.tiltMax = true ∧
      (k.tMin ≤ smp.temperature ∧ smp.temperature ≤ k.tMax) := by
  simp only [gatesPass, Bool.and_eq_true, decide_eq_true_eq, and_assoc]

theorem cadencePasses_iff : cadencePasses x = true ↔ x.off = 0 ∨ x.phase < x.on := decide_eq_true_iff

/-- A wider tolerance passes what a narrower one does, so a steady sample is level where TOL_IN ≤ TOL_OUT. -/
theorem isLevel_of_isSteady (tol : x.tolIn ≤ x.tolOut) (steady : isSteady x smp = true) : isLevel x smp = true := by
  obtain ⟨tilt, step⟩ := isSteady_iff.mp steady
  obtain ⟨dx, dy⟩ := tiltWithin_iff.mp tilt
  exact isLevel_iff.mpr ⟨tiltWithin_iff.mpr ⟨dx.trans tol, dy.trans tol⟩, step⟩

/-! ### The settle judge, row by row (R64) -/

theorem judgeSample_settles (j : x.judge = .unsettled) (steady : isSteady x smp = true)
    (last : x.inRun + 1 = x.runIn) : judgeSample x smp =
      { x with prevTemp := some smp.temperature, judge := .settled, inRun := 0, outRun := 0 } := by
  simp only [judgeSample, j, steady, last, if_true]

theorem judgeSample_steady (j : x.judge = .unsettled) (steady : isSteady x smp = true)
    (more : x.inRun + 1 ≠ x.runIn) : judgeSample x smp =
      { x with prevTemp := some smp.temperature, inRun := x.inRun + 1 } := by
  simp only [judgeSample, j, steady, more, if_true, if_false]

theorem judgeSample_unsteady (j : x.judge = .unsettled) (unsteady : isSteady x smp = false) :
    judgeSample x smp = { x with prevTemp := some smp.temperature, inRun := 0 } := by
  simp only [judgeSample, j, unsteady, Bool.false_eq_true, if_false]

theorem judgeSample_level (j : x.judge = .settled) (level : isLevel x smp = true) :
    judgeSample x smp = { x with prevTemp := some smp.temperature, outRun := 0 } := by
  simp only [judgeSample, j, level, if_true]

theorem judgeSample_unsettles (j : x.judge = .settled) (tilted : isLevel x smp = false)
    (last : x.outRun + 1 = x.runOut) : judgeSample x smp =
      { x with prevTemp := some smp.temperature, judge := .unsettled, inRun := 0, outRun := 0 } := by
  simp only [judgeSample, j, tilted, last, Bool.false_eq_true, if_true, if_false]

theorem judgeSample_tilted (j : x.judge = .settled) (tilted : isLevel x smp = false)
    (more : x.outRun + 1 ≠ x.runOut) : judgeSample x smp =
      { x with prevTemp := some smp.temperature, outRun := x.outRun + 1 } := by
  simp only [judgeSample, j, tilted, more, Bool.false_eq_true, if_false]

/-- Every judged sample is the previous one of the next (R63). -/
theorem judgeSample_prevTemp : (judgeSample x smp).prevTemp = some smp.temperature := by
  unfold judgeSample
  cases x.judge <;> dsimp only <;> split_ifs <;> rfl

end

/-- Settles O22: the two tests, then the judge's table from its rows. -/
theorem settleJudgeTable : Obligations.SettleJudgeTable := by
  rintro x smp _ _ stepPasses rfl rfl hstep
  have step : stepWithin x smp = true ↔ stepPasses := stepWithin_iff.trans hstep.symm
  refine ⟨?_, ?_, judgeSample_prevTemp, fun j steady last => ?_, fun j steady more => ?_, fun j unsteady => ?_,
    fun j level => ?_, fun j tilted last => ?_, fun j tilted more => ?_, isLevel_of_isSteady⟩
  · rw [isSteady_iff, tiltWithin_iff, step, and_assoc]
  · rw [isLevel_iff, tiltWithin_iff, step, and_assoc]
  · rw [judgeSample_settles j steady last]
    exact ⟨rfl, rfl, rfl⟩
  · rw [judgeSample_steady j steady more]
    exact ⟨j, rfl⟩
  · rw [judgeSample_unsteady j unsteady]
    exact ⟨j, rfl⟩
  · rw [judgeSample_level j level]
    exact ⟨j, rfl⟩
  · rw [judgeSample_unsettles j tilted last]
    exact ⟨rfl, rfl, rfl⟩
  · rw [judgeSample_tilted j tilted more]
    exact ⟨j, rfl⟩

end Sys2Proof.Machine
end

-- ==== Proofs of the family "sample intake and settling": frames, the judging event, a link loss (O20, O21, O26) ====
section
/-! SUPPORT. The arbiter's choice and what a frame of either kind begins (R55 to R57), and the branches of a sample's judging
event, with what the settle judge leaves when it takes the sample (R58 to R64). -/

namespace Sys2Proof.Machine

section

variable {s : State} {h : Head}

/-! ### The arbiter over the frame queues (R55 to R57) -/

/-- The round has `j` heads before the one at place `j` from the pointer. -/
theorem arbiterOrder_split (p j : Head) : arbiterOrder p =
    ((List.finRange 4).take j).map (p + ·) ++ (p + j) :: ((List.finRange 4).drop (j + 1)).map (p + ·) := by
  revert p j
  decide

theorem lt_of_mem_take_finRange {i j : Head} (m : i ∈ (List.finRange 4).take j) : i < j := by
  revert i j
  decide

/-- The arbiter's choice is the oldest frame of the first non-empty queue from the pointer on (R55). -/
theorem chosenFrame_first {j : Head} {f : Frame} {rest : List Frame} (place : h = s.corr.pointer + j)
    (before : ∀ i, i < j → (s.link (s.corr.pointer + i)).queue = []) (queue : (s.link h).queue = f :: rest) :
    s.chosenFrame = some (h, f) := by
  unfold State.chosenFrame
  rw [arbiterOrder_split _ j, ← place, List.findSome?_eq_some_iff]
  refine ⟨_, h, _, rfl, by simp only [State.oldestFrame, queue], fun i m => ?_⟩
  obtain ⟨k, earlier, rfl⟩ := List.mem_map.mp m
  simp only [State.oldestFrame, before k (lt_of_mem_take_finRange earlier)]

theorem exec_frameChoice_sample {f : Frame} (idle : s.corr.evaluator = none) (chosen : s.chosenFrame = some (h, f))
    (kind : f.kind = .sample) : exec .frameChoice s = .next ((s.removeFrame h).beginFrame h f) := by
  simp only [exec, execFrameChoice, idle, chosen, kind]

theorem exec_frameChoice_ident {f : Frame} (idle : s.corr.evaluator = none) (chosen : s.chosenFrame = some (h, f))
    (kind : f.kind = .ident) : exec .frameChoice s = .next ((s.removeFrame h).takeIdent h f) := by
  simp only [exec, execFrameChoice, idle, chosen, kind]

theorem removeFrame_link : (s.removeFrame h).link h = { s.link h with queue := (s.link h).queue.tail } :=
  updLink_link_same s h fun l => { l with queue := l.queue.tail }

theorem removeFrame_link_ne {i : Head} (n : i ≠ h) : (s.removeFrame h).link i = s.link i :=
  updLink_link_ne s h i (fun l => { l with queue := l.queue.tail }) n

theorem removeFrame_corr : (s.removeFrame h).corr = { s.corr with pointer := h + 1 } := rfl

/-- The context is that of a record in flight (R56). -/
theorem contextOf_eq : s.contextOf h =
    if (s.record h).state = .identifying ∨ (s.record h).state = .settling ∨ (s.record h).state = .acquiring then
      some ⟨(s.record h).takeNo, (s.record h).calSet, (s.record h).options,
        (s.calSet (s.record h).calSet).contents⟩
    else none := by
  simp only [State.contextOf, live_iff]

theorem beginFrame_eq {f : Frame} (some_sample : samplesOf f.payload ≠ []) : s.beginFrame h f =
    s.setEvaluator (some
      { head := h, frame := f, context := s.contextOf h, remaining := samplesOf f.payload, phase := .between }) := by
  unfold State.beginFrame
  cases samples : samplesOf f.payload with
  | nil => exact absurd samples some_sample
  | cons x xs => rfl

/-- An IDENT frame sets the identity of its head alone (R57). -/
theorem takeIdent_headState {f : Frame} :
    (s.takeIdent h f).headState h = identified f.payload (s.headState h) := by
  unfold State.takeIdent
  rw [updInbox_headState, updHead_headState_same]

theorem takeIdent_headState_ne {f : Frame} {i : Head} (n : i ≠ h) :
    (s.takeIdent h f).headState i = s.headState i := by
  unfold State.takeIdent
  rw [updInbox_headState, updHead_headState_ne _ _ _ _ n]

theorem takeIdent_inbox {f : Frame} : (s.takeIdent h f).inbox h = { s.inbox h with
    identityMsgs := (s.inbox h).identityMsgs ++ [identityReportOf (s.headState h) f.payload] } := by
  unfold State.takeIdent
  rw [updInbox_inbox_same, updHead_inbox]

end

/-- Settles O20: the choice, and what a frame of either kind makes of it. -/
theorem frameChoiceServesRoundOrder : Obligations.FrameChoiceServesRoundOrder := by
  intro s h f rest j idle place before queue
  have chosen := chosenFrame_first place before queue
  have removed : (s.removeFrame h).link h = { s.link h with queue := rest } := by rw [removeFrame_link, queue]; rfl
  refine ⟨fun kind some_sample => ?_, fun kind => ?_⟩
  · have taken := exec_frameChoice_sample idle chosen kind
    rw [beginFrame_eq some_sample] at taken
    refine ⟨_, taken, ?_, removed, fun i n => removeFrame_link_ne n,
      (removeFrame_frame s h).andThen (setEvaluator_frame _ _) (by decide)⟩
    rw [← contextOf_eq]
    rfl
  · exact ⟨_, exec_frameChoice_ident idle chosen kind, rfl, idle, takeIdent_headState,
      fun i n => takeIdent_headState_ne n, takeIdent_inbox, (takeIdent_inboxesOnly _ h f).record, removed,
      (removeFrame_frame s h).andThen (takeIdent_frame _ h f) (by decide)⟩

/-! ### The judging event (R58 to R64) -/

section

variable {s : State} {e : Evaluator} {x : Sample}

theorem updHead_congr {h : Head} {f g : HeadState → HeadState} (same : f (s.headState h) = g (s.headState h)) :
    s.updHead h f = s.updHead h g := by
  unfold State.updHead
  rw [same]

theorem exec_judgingEvent {rest : List Sample} (he : s.corr.evaluator = some e) (hp : e.phase = .between)
    (hr : e.remaining = x :: rest) :
    exec .judgingEvent s = .next (s.judgeNext { e with remaining := rest } x) := by
  simp only [exec, execJudgingEvent, he, hp, hr]

theorem toDelivery_none {time : Nat} {cls : SampleClass} {caused : Bool} (hc : e.context = none) :
    s.toDelivery e x time cls caused = s.sampleDone e := by
  simp only [State.toDelivery, hc]

theorem toDelivery_some {c : Context} {time : Nat} {cls : SampleClass} {caused : Bool} (hc : e.context = some c) :
    s.toDelivery e x time cls caused = s.setEvaluator (some { e with phase := .judged x time cls caused }) := by
  simp only [State.toDelivery, hc]

section

variable {phase : Nat} (hphase : phase = cadencePhase (s.headState e.head))
include hphase

theorem judgeNext_off (off : cadencePasses (s.headState e.head) = false) : s.judgeNext e x =
    (s.updHead e.head fun y => { y with phase := phase }).sampleDone e := by
  rw [updHead_congr (g := fun y => { y with phase := cadencePhase y }) (by rw [hphase])]
  simp only [State.judgeNext, off, if_true]

theorem judgeNext_flagged (on : cadencePasses (s.headState e.head) = true) (flagged : x.flagged = true) :
    s.judgeNext e x = (s.updHead e.head fun y => { y with phase := phase }).toDelivery e x
      (sampleTime e.frame.surveyStamp (latencyOf e.context) x.offset) .flagged false := by
  rw [updHead_congr (g := fun y => { y with phase := cadencePhase y }) (by rw [hphase])]
  simp only [State.judgeNext, on, flagged, Bool.true_eq_false, if_true, if_false]

theorem judgeNext_gateFailed (on : cadencePasses (s.headState e.head) = true) (clear : x.flagged = false)
    (fails : gateFails e.context (s.headState e.head) x = true) :
    s.judgeNext e x = (s.updHead e.head fun y => { y with phase := phase }).toDelivery e x
      (sampleTime e.frame.surveyStamp (latencyOf e.context) x.offset) .gateFailed false := by
  rw [updHead_congr (g := fun y => { y with phase := cadencePhase y }) (by rw [hphase])]
  simp only [State.judgeNext, on, clear, fails, Bool.true_eq_false, Bool.false_eq_true, if_true, if_false]

theorem judgeNext_judged (on : cadencePasses (s.headState e.head) = true) (clear : x.flagged = false)
    (passes : gateFails e.context (s.headState e.head) x = false) :
    s.judgeNext e x = ((s.updHead e.head fun y => { y with phase := phase }).judge e.head x).toDelivery e x
      (sampleTime e.frame.surveyStamp (latencyOf e.context) x.offset) (.judged (isLevel (s.headState e.head) x))
      (decide ((judgeSample (s.headState e.head) x).judge ≠ (s.headState e.head).judge)) := by
  rw [updHead_congr (g := fun y => { y with phase := cadencePhase y }) (by rw [hphase])]
  simp only [State.judgeNext, on, clear, passes, Bool.true_eq_false, Bool.false_eq_true, if_false]

end

theorem judge_kept {h : Head} (same : (judgeSample (s.headState h) x).judge = (s.headState h).judge) :
    s.judge h x = s.updHead h fun _ => judgeSample (s.headState h) x := if_pos same

theorem judge_changed {h : Head} (change : (judgeSample (s.headState h) x).judge ≠ (s.headState h).judge) :
    s.judge h x = ((s.updHead h fun _ => judgeSample (s.headState h) x).raise .settle).presentJudge h
      (judgeSample (s.headState h) x).judge := if_neg change

/-- The judge touches the head's state alone at the Correction Unit. -/
theorem judge_corr {h : Head} :
    (s.judge h x).corr = (s.updHead h fun _ => judgeSample (s.headState h) x).corr := by
  unfold State.judge
  dsimp only
  split <;> rfl

/-- What the judging event of head `h` leaves at the head, the Control Port and the record when the settle judge takes
sample `x` and the cadence phase moves to `phase`: a change of the judge is raised and presented (R61, R64). -/
def judgedAt (h : Head) (x : Sample) (phase : Nat) (s t : State) : Prop :=
  t.headState h = { judgeSample (s.headState h) x with phase := phase } ∧
  (∀ i, i ≠ h → t.headState i = s.headState i) ∧
  ((judgeSample (s.headState h) x).judge = (s.headState h).judge → t.ctrl = s.ctrl ∧ t.occ = s.occ) ∧
  ((judgeSample (s.headState h) x).judge ≠ (s.headState h).judge →
    t.ctrl = { s.ctrl with raised := s.ctrl.raised ++ [.settle] } ∧
    t.inbox h = { s.inbox h with
      judgeMsgs := (s.inbox h).judgeMsgs ++ [(judgeSample (s.headState h) x).judge] }) ∧
  unchangedBut [.corr, .occ, .ctrl] s t

theorem judge_judgedAt {h : Head} {phase : Nat} :
    judgedAt h x phase s ((s.updHead h fun y => { y with phase := phase }).judge h x) := by
  set u := s.updHead h fun y => { y with phase := phase } with hu
  have head : u.headState h = { s.headState h with phase := phase } := updHead_headState_same s h _
  have judged : judgeSample (u.headState h) x = { judgeSample (s.headState h) x with phase := phase } := by
    rw [head, judgeSample_setPhase]
  have state (i : Head) : (u.judge h x).headState i =
      (u.updHead h fun _ => judgeSample (u.headState h) x).headState i :=
    congrArg (fun c : CorrectionUnit => c.heads[i]) judge_corr
  refine ⟨?_, fun i n => ?_, fun same => ?_, fun change => ?_,
    (updHead_frame s h _).andThen (judge_frame u h x) (by decide)⟩
  · rw [state, updHead_headState_same, judged]
  · rw [state, updHead_headState_ne _ _ _ _ n, hu, updHead_headState_ne _ _ _ _ n]
  · rw [judge_kept (by rw [judged, head]; exact same)]
    exact ⟨rfl, rfl⟩
  · rw [judge_changed (by rw [judged, head]; exact change), judged]
    exact ⟨rfl, updInbox_inbox_same _ h _⟩

theorem judgedAt.setEvaluator {h : Head} {phase : Nat} {t : State} {o : Option Evaluator}
    (judged : judgedAt h x phase s t) : judgedAt h x phase s (t.setEvaluator o) := by
  obtain ⟨head, others, kept, changed, frame⟩ := judged
  exact ⟨head, others, kept, changed, frame.andThen (setEvaluator_frame t o) (by decide)⟩

end

/-- Settles O21, by the branches of the judging event, each without and with a context. -/
theorem judgingEventScreensAndJudges : Obligations.JudgingEventScreensAndJudges := by
  rintro s e x rest _ c _ _ phase passes he hp hr rfl rfl rfl cadence hpasses
  have taken := exec_judgingEvent he hp hr
  set v : Evaluator := { e with remaining := rest }
  have hphase : phase = cadencePhase (s.headState v.head) := cadence
  have gates : gateFails (some c) (s.headState v.head) x = false ↔ passes := by
    rw [gateFails, Bool.not_eq_false', gatesPass_iff, tiltWithin_iff]
    exact hpasses.symm
  have on (o : (s.headState e.head).off = 0 ∨ (s.headState e.head).phase < (s.headState e.head).on) :
      cadencePasses (s.headState v.head) = true := cadencePasses_iff.mpr o
  refine ⟨flagged_iff, fun off past => ?_, fun o hc flagged => ?_, fun o hc clear => ?_, ⟨rfl, rfl⟩,
    fun o hc flagged => ?_, fun o hc clear fails => ?_, fun o hc clear passed => ?_⟩
  · have vanishes : cadencePasses (s.headState v.head) = false := by
      rw [← Bool.not_eq_true, cadencePasses_iff]
      exact fun o => o.elim off (Nat.not_lt.mpr past)
    rw [taken, judgeNext_off hphase vanishes, sampleDone_eq]
  · rw [taken, judgeNext_flagged hphase (on o) flagged, toDelivery_none (e := v) hc, sampleDone_eq]
  · have context : v.context = none := hc
    rw [judgeNext_judged hphase (on o) clear (by rw [context]; rfl), toDelivery_none context, sampleDone_eq] at taken
    obtain ⟨head, others, kept, changed, frame⟩ := (judge_judgedAt (h := v.head)).setEvaluator
    exact ⟨_, taken, head, others, rfl, kept, changed, frame⟩
  · have context : v.context = some c := hc
    rw [taken, judgeNext_flagged hphase (on o) flagged, toDelivery_some context, context]
    rfl
  · have context : v.context = some c := hc
    have failed : gateFails v.context (s.headState v.head) x = true := by
      rw [context, ← Bool.not_eq_false, gates]
      exact fails
    rw [taken, judgeNext_gateFailed hphase (on o) clear failed, toDelivery_some context, context]
    rfl
  · have context : v.context = some c := hc
    rw [judgeNext_judged hphase (on o) clear (by rw [context]; exact gates.mpr passed), toDelivery_some context,
      context] at taken
    obtain ⟨head, others, kept, changed, frame⟩ := (judge_judgedAt (h := v.head)).setEvaluator
    exact ⟨_, taken, head, others, by rw [hc]; rfl, kept, changed, frame⟩

/-! ### A link loss (R68) -/

theorem judgeClear_corr {s : State} {h : Head} : (s.judgeClear h).corr = (s.updHead h clearedJudge).corr := by
  unfold State.judgeClear
  split <;> rfl

theorem judgeClear_headState_ne {s : State} {h i : Head} (n : i ≠ h) :
    (s.judgeClear h).headState i = s.headState i := by
  unfold State.headState
  rw [judgeClear_corr]
  exact updHead_headState_ne s h i _ n

/-- Settles O26: the loss is taken from the list, then the judge is cleared, SETTLED or not. -/
theorem linkLossClearsTheJudge : Obligations.LinkLossClearsTheJudge := by
  intro h s presented between
  have taken : exec (.linkDownAtCorrection h) s = .next ((s.updDownMsgs h (· - 1)).judgeClear h) := by
    simp only [exec, execLinkDownAtCorrection, presented, betweenSamples_of between, ne_eq, not_false_eq_true,
      and_self, if_true]
  set u := s.updDownMsgs h (· - 1)
  have frame : unchangedBut [.corr] s u := updDownMsgs_frame s h (· - 1)
  refine ⟨_, taken, judgeClear_headState, fun i n => judgeClear_headState_ne n, ?_, judgeClear_evaluator, ?_,
    fun j => ⟨?_, ?_, frame.andThen (judgeClear_frame u h) (by decide)⟩, fun j => ?_⟩
  · rw [judgeClear_corr]
    rfl
  · rw [judgeClear_corr]
    rfl
  · rw [judgeClear_of_settled (s := u) j]
    rfl
  · rw [judgeClear_of_settled (s := u) j]
    exact updInbox_inbox_same ((u.updHead h clearedJudge).raise .settle) h _
  · rw [judgeClear_of_unsettled (s := u) j]
    exact frame.andThen (updHead_frame u h _) (by decide)

end Sys2Proof.Machine
end

-- ==== Proofs of the family "sample intake and settling": deliveries and tide requests (O23, O25) ====
section
/-! SUPPORT. What DELIVERY_FORMING and TIDE_LOOKUP do, one equation for each row of the table of R65 and for each outcome of
a tide request (R103); the two statements are read off these. -/

namespace Sys2Proof.Machine

section

variable {s : State} {e : Evaluator} {c : Context} {x : Sample} {time : Nat} {cls : SampleClass}

/-! ### The forming of a delivery (R58, R65, R66, R72) -/

theorem exec_deliveryForming_held (he : s.corr.evaluator = some e) (hc : e.context = some c)
    (hp : e.phase = .judged x time cls true) (waits : (s.inbox e.head).judgeMsgs ≠ []) :
    exec .deliveryForming s = .next s := by
  simp only [exec, execDeliveryForming, he, hc, hp, waits, ne_eq, not_false_eq_true, and_self, if_true]

theorem exec_deliveryForming {caused : Bool} (he : s.corr.evaluator = some e) (hc : e.context = some c)
    (hp : e.phase = .judged x time cls caused) (free : caused = false ∨ (s.inbox e.head).judgeMsgs = []) :
    exec .deliveryForming s = .next (s.formDelivery e c x time cls) := by
  have proceeds : ¬ (caused = true ∧ (s.inbox e.head).judgeMsgs ≠ []) := fun ⟨h, waits⟩ =>
    free.elim (fun f => Bool.false_ne_true (f.symm.trans h)) waits
  simp only [exec, execDeliveryForming, he, hc, hp, proceeds, if_false]

theorem formDelivery_lost (lost : ¬ ((s.record e.head).state.live = true ∧ (s.record e.head).takeNo = c.takeNo)) :
    s.formDelivery e c x time cls = s.sampleDone e := by
  simp only [State.formDelivery, lost, if_false]

section

variable (live : (s.record e.head).state.live = true) (found : (s.record e.head).takeNo = c.takeNo)
include live found

theorem formDelivery_disposed {d : Disposition}
    (formed : formedDisposition (s.record e.head).state (s.headState e.head).judge cls = d) (other : d ≠ .accepted) :
    s.formDelivery e c x time cls = s.setEvaluator (some { e with phase := .delivering x time d }) := by
  simp only [State.formDelivery, live, found, formed, and_self, if_true]

theorem formDelivery_candidate
    (formed : formedDisposition (s.record e.head).state (s.headState e.head).judge cls = .accepted) :
    s.formDelivery e c x time cls = s.formTerms e c x time := by
  simp only [State.formDelivery, live, found, formed, and_self, if_true]

end

theorem formedDisposition_identifying {judge : SettleJudge} {level : Bool} :
    formedDisposition .identifying judge (.judged level) = .waitId := rfl

theorem formedDisposition_settling {judge : SettleJudge} {level : Bool} :
    formedDisposition .settling judge (.judged level) = .settling := rfl

theorem formedDisposition_acquiring_unsettled {level : Bool} :
    formedDisposition .acquiring .unsettled (.judged level) = .settling := rfl

theorem formedDisposition_acquiring_settled {level : Bool} :
    formedDisposition .acquiring .settled (.judged level) = if level then .accepted else .rejTilt := rfl

/-- A disabled temperature term leaves the extrapolation flag clear (R80). -/
theorem formCandidate_eq {y : HeadState} : formCandidate c y x =
    { reading := clamp64 (roundDiv (x.counts * c.cal.scale) 65536)
      tiltTerm := if c.options.tilt then
        roundDiv (c.cal.tiltK * ((x.tiltX - y.levelX) ^ 2 + (x.tiltY - y.levelY) ^ 2)) 1000 else 0
      tempTerm := if c.options.temp then (tempTermOf c.cal.points x.temperature).1 else 0
      extrap := if c.options.temp then (tempTermOf c.cal.points x.temperature).2 else false
      tideTerm := 0, corrected := 0 } := by
  unfold formCandidate
  cases c.options.temp <;> rfl

theorem finish_zero {k : Candidate} (untided : k.tideTerm = 0) : k.finish 0 =
    { k with corrected := clamp64 (k.reading + k.tiltTerm + k.tempTerm) } := by
  unfold Candidate.finish correctedOf
  rw [Int.add_zero, ← untided]

theorem formTerms_tide (tide : c.options.tide = true) : s.formTerms e c x time =
    s.setEvaluator (some { e with phase := .awaitingTide x time (formCandidate c (s.headState e.head) x) }) := by
  simp only [State.formTerms, tide, if_true]

theorem formTerms_untided (tide : c.options.tide = false) : s.formTerms e c x time =
    s.setEvaluator (some
      { e with phase := .crediting x time ((formCandidate c (s.headState e.head) x).finish 0) }) := by
  simp only [State.formTerms, tide, Bool.false_eq_true, if_false]

end

/-- Settles O23, by the rows of R65: held, lost, and each class at each state of the record. -/
theorem deliveryFollowsTheTable : Obligations.DeliveryFollowsTheTable := by
  rintro s e c x time cls caused _ goes _ _ _ k he hc hp rfl hgoes rfl rfl rfl hk
  have candidate : formCandidate c (s.headState e.head) x = k := formCandidate_eq.trans hk.symm
  have untided : k.tideTerm = 0 := by rw [hk]
  have formed (free : caused = false ∨ (s.inbox e.head).judgeMsgs = []) :
      exec .deliveryForming s = .next (s.formDelivery e c x time cls) := exec_deliveryForming he hc hp free
  refine ⟨fun tide => rfl, ?_, fun free lost => ?_, fun free st found => ?_⟩
  · rintro rfl waits
    exact exec_deliveryForming_held he hc hp waits
  · rw [formed free, formDelivery_lost, sampleDone_eq]
    rintro ⟨live, found⟩
    rcases lost with idle | writing | other
    · exact not_live_iff.mpr (.inl idle) live
    · exact not_live_iff.mpr (.inr writing) live
    · exact other found
  · have live := live_iff.mpr st
    have disposed (d : Disposition) (other : d ≠ .accepted)
        (row : formedDisposition (s.record e.head).state (s.headState e.head).judge cls = d) :
        exec .deliveryForming s = .next (goes (.delivering x time d)) := by
      rw [formed free, formDelivery_disposed live found row other, hgoes]
    have accepted (acquiring : (s.record e.head).state = .acquiring) (j : (s.headState e.head).judge = .settled) :
        formedDisposition (s.record e.head).state (s.headState e.head).judge (.judged true) = .accepted := by
      rw [acquiring, j, formedDisposition_acquiring_settled, if_pos rfl]
    refine ⟨?_, ?_, ?_, ?_, ?_, ?_, ?_, ?_⟩
    · rintro rfl
      exact disposed .rejHead nofun rfl
    · rintro rfl
      exact disposed .rejGate nofun rfl
    · rintro level rfl identifying
      exact disposed .waitId nofun (by rw [identifying, formedDisposition_identifying])
    · rintro level rfl settling
      exact disposed .settling nofun (by rw [settling, formedDisposition_settling])
    · rintro level rfl acquiring j
      exact disposed .settling nofun (by rw [acquiring, j, formedDisposition_acquiring_unsettled])
    · rintro rfl acquiring j
      exact disposed .rejTilt nofun (by rw [acquiring, j, formedDisposition_acquiring_settled]; rfl)
    · rintro rfl acquiring j tide
      rw [formed free, formDelivery_candidate live found (accepted acquiring j), formTerms_tide tide, candidate, hgoes]
    · rintro rfl acquiring j tide
      rw [formed free, formDelivery_candidate live found (accepted acquiring j), formTerms_untided tide, candidate,
        finish_zero untided, hgoes]

/-! ### Tide requests (R66, R82, R103) -/

section

variable {s : State} {e : Evaluator} {x : Sample} {time : Nat} {k : Candidate}

theorem setLookup_none (free : s.tide.lookup = none) : s.setLookup none = s := by
  unfold State.setLookup
  rw [← free]

section

variable (he : s.corr.evaluator = some e) (hp : e.phase = .awaitingTide x time k) (free : s.tide.lookup = none)
include he hp free

theorem exec_tideLookup : exec .tideLookup s = .next (s.beginLookup time) := by
  simp only [exec, execTideLookup, he, hp, free]

section

variable (waiting : ∀ p, s.tide.pendingTable = some p → p.nextIndex ≠ p.count)
include waiting

/-- A request that is answered with a term goes on to its credit (R66, R81). -/
theorem endLookup_term (v : Int) : s.endLookup (some v) =
    s.setEvaluator (some { e with phase := .crediting x time (k.finish v) }) := by
  have answered : s.answerTide (some v) = s.setEvaluator (some { e with phase := .crediting x time (k.finish v) }) := by
    simp only [State.answerTide, he, hp]
  rw [State.endLookup, answered, setLookup_none (by exact free), commitIfReady_none (by exact waiting)]

/-- A gap rejects the sample and raises TIDE (R82). -/
theorem endLookup_gap : s.endLookup none =
    (s.setEvaluator (some { e with phase := .delivering x time .rejTide })).raise .tide := by
  have answered : s.answerTide none =
      (s.setEvaluator (some { e with phase := .delivering x time .rejTide })).raise .tide := by
    simp only [State.answerTide, he, hp]
  rw [State.endLookup, answered, setLookup_none (by exact free), commitIfReady_none (by exact waiting)]

end

end

theorem beginLookup_no_table (none : s.tide.current = none) : s.beginLookup time = s.endLookup .none := by
  simp only [State.beginLookup, none]

theorem beginLookup_hit {tab : TideTable} {y : CacheEntry} (current : s.tide.current = some tab)
    (hit : s.tide.cache.find? (fun z => z.segment.holds time) = some y) : s.beginLookup time =
      (s.setCache (touchCache y s.tide.cache)).endLookup (some (tideTermOf y.segment time)) := by
  simp only [State.beginLookup, current, hit]

section

variable {tab : TideTable} (current : s.tide.current = some tab)
  (misses : s.tide.cache.find? (fun z => z.segment.holds time) = none)
include current misses

theorem beginLookup_outside (outside : time < tab.firstStart ∨ tab.endTime ≤ time) :
    s.beginLookup time = s.endLookup none := by
  simp only [State.beginLookup, current, misses, outside, if_true]

theorem beginLookup_search (inside : ¬ (time < tab.firstStart ∨ tab.endTime ≤ time)) : s.beginLookup time =
    s.setLookup (some (searching ⟨time, tab, s.tide.tableNo, 0, 0, .probing⟩ 0 (tab.count - 1))) := by
  simp only [State.beginLookup, current, misses, inside, if_false]

end

theorem find_holds_none {cache : List CacheEntry} (none : ∀ y ∈ cache, y.segment.holds time = false) :
    cache.find? (fun z => z.segment.holds time) = .none :=
  List.find?_eq_none.mpr fun y m => Bool.eq_false_iff.mp (none y m)

end

/-- Settles O25: a gap, a hit, a search. -/
theorem tideLookupDecides : Obligations.TideLookupDecides := by
  intro s e x time k he hp free waiting
  have taken := exec_tideLookup he hp free
  refine ⟨fun gap => ?_, fun tab y current hit => ?_, fun tab current misses first last => ?_⟩
  · rw [taken]
    rcases gap with none | ⟨tab, current, outside, misses⟩
    · rw [beginLookup_no_table none, endLookup_gap he hp free waiting]
    · rw [beginLookup_outside current (find_holds_none misses) outside, endLookup_gap he hp free waiting]
  · rw [taken, beginLookup_hit current hit]
    exact congrArg _ (endLookup_term (s := s.setCache (touchCache y s.tide.cache)) he hp free waiting _)
  · rw [taken, beginLookup_search current (find_holds_none misses) (by omega)]
    simp only [searching, eq_comm (a := 0)]

end Sys2Proof.Machine
end

-- ==== Proofs of the family "sample intake and settling": SET_HEAD (O48) ====
section
/-! SUPPORT. SET_HEAD in its two parts: the judge's part at the Correction Unit (R70), then the link's part (R135). Each part
is described once, with what it tells the other blocks, and the statement puts them together. -/

namespace Sys2Proof.Machine

section

variable {s : State} {h : Head}

/-! ### The judge's part (R68, R70) -/

section

variable {settles : Bool} (hsettles : settles = true ↔ (s.headState h).judge = .settled)
include hsettles

theorem judgeClear_ctrl : (s.judgeClear h).ctrl =
    { s.ctrl with raised := s.ctrl.raised ++ (if settles then [.settle] else []) } := by
  cases j : (s.headState h).judge with
  | settled =>
    rw [judgeClear_of_settled j, if_pos (hsettles.mpr j)]
    rfl
  | unsettled =>
    rw [judgeClear_of_unsettled j, if_neg (by rw [hsettles, j]; exact nofun), List.append_nil]
    rfl

theorem judgeClear_inbox : (s.judgeClear h).inbox h = { s.inbox h with
    judgeMsgs := (s.inbox h).judgeMsgs ++ (if settles then [.unsettled] else []) } := by
  cases j : (s.headState h).judge with
  | settled =>
    rw [judgeClear_of_settled j, if_pos (hsettles.mpr j)]
    exact updInbox_inbox_same ((s.updHead h clearedJudge).raise .settle) h _
  | unsettled =>
    rw [judgeClear_of_unsettled j, if_neg (by rw [hsettles, j]; exact nofun), List.append_nil]
    rfl

end

theorem abandonFrame_downMsgs : (s.abandonFrame h).corr.downMsgs = s.corr.downMsgs := by
  unfold State.abandonFrame
  split
  · rfl
  · split <;> rfl

/-- SET_HEAD up to the link's part: the judge is cleared, its settings are loaded, and the head's frame is abandoned
(R70). -/
def State.judgeSettingsLoaded (h : Head) (x : HeadSettings) (s : State) : State :=
  ((s.judgeClear h).updHead h (loadJudgeSettings x)).abandonFrame h

theorem setHead_eq {x : HeadSettings} :
    s.setHead h x = ((s.judgeSettingsLoaded h x).setLinkSettings h x).decideOrder .done .none := rfl

section

variable {x : HeadSettings}

theorem judgeSettingsLoaded_frame : unchangedBut [.corr, .occ, .ctrl] s (s.judgeSettingsLoaded h x) :=
  ((judgeClear_frame s h).andThen (updHead_frame _ h _) (fun _ m => m)).andThen (abandonFrame_frame _ h) (by decide)

theorem judgeSettingsLoaded_link (i : Head) : (s.judgeSettingsLoaded h x).link i = s.link i :=
  congrArg (fun links : Vector LinkReceiver 4 => links[i]) (judgeSettingsLoaded_frame.links (by decide))

theorem judgeSettingsLoaded_headState : (s.judgeSettingsLoaded h x).headState h =
    loadJudgeSettings x (clearedJudge (s.headState h)) := by
  unfold State.judgeSettingsLoaded
  rw [abandonFrame_headState, updHead_headState_same, judgeClear_headState]

theorem judgeSettingsLoaded_headState_ne {i : Head} (n : i ≠ h) :
    (s.judgeSettingsLoaded h x).headState i = s.headState i := by
  unfold State.judgeSettingsLoaded
  rw [abandonFrame_headState, updHead_headState_ne _ _ _ _ n, judgeClear_headState_ne n]

theorem judgeSettingsLoaded_evaluator {e : Evaluator} (he : s.corr.evaluator = some e) :
    (s.judgeSettingsLoaded h x).corr.evaluator = if e.head = h then none else some e :=
  abandonFrame_evaluator (judgeClear_evaluator.trans he)

theorem judgeSettingsLoaded_downMsgs : (s.judgeSettingsLoaded h x).corr.downMsgs = s.corr.downMsgs := by
  have cleared : (s.judgeClear h).corr.downMsgs = s.corr.downMsgs := by
    rw [judgeClear_corr]
    rfl
  exact abandonFrame_downMsgs.trans cleared

theorem judgeSettingsLoaded_ctrl {settles : Bool} (hsettles : settles = true ↔ (s.headState h).judge = .settled) :
    (s.judgeSettingsLoaded h x).ctrl =
      { s.ctrl with raised := s.ctrl.raised ++ (if settles then [.settle] else []) } :=
  ((abandonFrame_frame _ h).ctrl (by decide)).trans (judgeClear_ctrl hsettles)

theorem judgeSettingsLoaded_inbox {settles : Bool} (hsettles : settles = true ↔ (s.headState h).judge = .settled) :
    (s.judgeSettingsLoaded h x).inbox h = { s.inbox h with
      judgeMsgs := (s.inbox h).judgeMsgs ++ (if settles then [.unsettled] else []) } :=
  (congrArg (fun o : OccupationController => o.inbox[h]) ((abandonFrame_frame _ h).occ (by decide))).trans
    (judgeClear_inbox hsettles)

end

/-! ### The link's part (R131, R135) -/

theorem linkDown_presented : s.linkDown h true = (((s.updLink h fun l =>
    { l with judge := .down, goodRun := 0, badRun := 0, silenceTimer := none, expected := none }).raise
      .link).updDownMsgs h (· + 1)).updInbox h fun b => { b with linkMsgs := b.linkMsgs ++ [.down] } := rfl

/-- An equal rate loads the settings (R135). -/
theorem setLinkSettings_same_rate {x : HeadSettings} (rate : (s.link h).rate = rateOf x.rateCode) :
    s.setLinkSettings h x = s.updLink h (loadLinkSettings x) := if_pos rate

/-- Another rate starts the receiver again, after its judge has gone DOWN (R135). -/
theorem setLinkSettings_other_rate {x : HeadSettings} {drops : Bool}
    (hdrops : drops = true ↔ (s.link h).rate ≠ rateOf x.rateCode ∧ (s.link h).judge = .up)
    (rate : (s.link h).rate ≠ rateOf x.rateCode) : s.setLinkSettings h x =
      (if drops then s.linkDown h true else s).updLink h fun l => loadLinkSettings x (restartedLink l) := by
  have same : drops = true ↔ (s.link h).judge = .up := by rw [hdrops, and_iff_right rate]
  simp only [State.setLinkSettings, rate, if_false, same]

/-- What the link's part of SET_HEAD tells the other blocks of a link that goes DOWN (R131). -/
def linkLossTold (h : Head) (drops : Bool) (s t : State) : Prop :=
  t.ctrl = { s.ctrl with raised := s.ctrl.raised ++ (if drops then [.link] else []) } ∧
  t.inbox h = { s.inbox h with linkMsgs := (s.inbox h).linkMsgs ++ (if drops then [.down] else []) } ∧
  t.corr = { s.corr with downMsgs := s.corr.downMsgs.set h (s.corr.downMsgs[h] + drops.toNat) }

theorem linkLossTold_none : linkLossTold h false s s := by
  refine ⟨?_, ?_, ?_⟩
  · rw [if_neg Bool.false_ne_true, List.append_nil]
  · rw [if_neg Bool.false_ne_true, List.append_nil]
  · simp

theorem linkDown_told : linkLossTold h true s (s.linkDown h true) := by
  rw [linkDown_presented]
  exact ⟨rfl, updInbox_inbox_same _ h _, rfl⟩

theorem linkLossTold.updLink {drops : Bool} {t : State} {f : LinkReceiver → LinkReceiver}
    (told : linkLossTold h drops s t) : linkLossTold h drops s (t.updLink h f) := told

theorem setLinkSettings_told {x : HeadSettings} {drops : Bool}
    (hdrops : drops = true ↔ (s.link h).rate ≠ rateOf x.rateCode ∧ (s.link h).judge = .up) :
    linkLossTold h drops s (s.setLinkSettings h x) := by
  by_cases rate : (s.link h).rate = rateOf x.rateCode
  · obtain rfl : drops = false := Bool.eq_false_iff.mpr fun d => (hdrops.mp d).1 rate
    rw [setLinkSettings_same_rate rate]
    exact linkLossTold_none.updLink
  · rw [setLinkSettings_other_rate hdrops rate]
    cases drops with
    | true => exact linkDown_told.updLink
    | false => exact linkLossTold_none.updLink

theorem linkDown_link : (s.linkDown h true).link h = { s.link h with
    judge := .down, goodRun := 0, badRun := 0, silenceTimer := none, expected := none } := by
  rw [linkDown_presented, updInbox_link, updDownMsgs_link, raise_link, updLink_link_same]

theorem linkDown_link_ne {i : Head} (n : i ≠ h) : (s.linkDown h true).link i = s.link i := by
  rw [linkDown_presented, updInbox_link, updDownMsgs_link, raise_link, updLink_link_ne _ _ _ _ n]

theorem setLinkSettings_link_same_rate {x : HeadSettings} (rate : (s.link h).rate = rateOf x.rateCode) :
    (s.setLinkSettings h x).link h = loadLinkSettings x (s.link h) := by
  rw [setLinkSettings_same_rate rate, updLink_link_same]

/-- Another rate leaves the settings loaded in a receiver in SEARCH, HUNT and DOWN with an empty queue (R135). -/
theorem setLinkSettings_link_other_rate {x : HeadSettings} (rate : (s.link h).rate ≠ rateOf x.rateCode) :
    (s.setLinkSettings h x).link h = loadLinkSettings x (restartedLink (s.link h)) := by
  unfold State.setLinkSettings
  rw [if_neg rate]
  dsimp only
  rw [updLink_link_same]
  split
  · rw [linkDown_link]
    rfl
  · rfl

theorem setLinkSettings_link_ne {x : HeadSettings} {i : Head} (n : i ≠ h) :
    (s.setLinkSettings h x).link i = s.link i := by
  unfold State.setLinkSettings
  dsimp only
  split
  · rw [updLink_link_ne _ _ _ _ n]
  · rw [updLink_link_ne _ _ _ _ n]
    split
    · exact linkDown_link_ne n
    · rfl

/-! ### SET_HEAD (R70, R135, R166) -/

theorem exec_setHead_idle (presented : s.orderPresented 2 = true) (between : s.betweenSamples = true)
    (arg0 : headOfArg s.order.arg0 = h) (idle : (s.record h).state = .idle) : exec .setHead s =
      .next (s.setHead h (parseSettings s.order.arg1 s.order.arg2 s.order.arg3)) := by
  simp only [exec, execSetHead, presented, between, arg0, idle, Bool.and_self, if_true]

theorem exec_setHead_busy (presented : s.orderPresented 2 = true) (between : s.betweenSamples = true)
    (arg0 : headOfArg s.order.arg0 = h) (busy : (s.record h).state ≠ .idle) :
    exec .setHead s = .next (s.orderRefused .headBusy) := by
  simp only [exec, execSetHead, presented, between, arg0, busy, Bool.and_self, if_true, if_false]

end

/-- Settles O48: the head with an occupation; the idle one, whose judge's part is `v` and whose link's part follows on
`v`. -/
theorem setHeadLoadsSettings : Obligations.SetHeadLoadsSettings := by
  rintro h s x settles drops stage code arg0 hx hsettles hdrops between
  have presented : s.orderPresented 2 = true := decide_eq_true ⟨stage, code⟩
  have head : headOfArg s.order.arg0 = h := by rw [arg0, headOfArg_ofNat]
  refine ⟨exec_setHead_busy presented (betweenSamples_of between) head, fun idle => ?_⟩
  have taken := exec_setHead_idle presented (betweenSamples_of between) head idle
  rw [← hx, setHead_eq] at taken
  have others := (setHead_inboxesOnly s h x).record
  have frame := setHead_frame s h x
  rw [setHead_eq] at others frame
  set v := s.judgeSettingsLoaded h x
  have link (i : Head) : v.link i = s.link i := judgeSettingsLoaded_link i
  obtain ⟨ctrl, inbox, corr⟩ := setLinkSettings_told (s := v) (h := h) (x := x) (drops := drops) (by rwa [link])
  have state (i : Head) : (v.setLinkSettings h x).headState i = v.headState i := by
    unfold State.headState
    rw [corr]
  have order : (v.setLinkSettings h x).order = s.order :=
    ((setLinkSettings_frame v h x).order (by decide)).trans (judgeSettingsLoaded_frame.order (by decide))
  refine ⟨_, taken, ?_, fun i n => ?_, fun e he => ?_, fun rate => ?_, fun rate => ?_, fun i n => ?_, ?_, ?_, ?_, ?_,
    others, frame⟩
  · rw [decideOrder_headState, state, judgeSettingsLoaded_headState]
    rfl
  · rw [decideOrder_headState, state, judgeSettingsLoaded_headState_ne n]
  · rw [decideOrder_corr, corr]
    exact judgeSettingsLoaded_evaluator he
  · rw [decideOrder_link, setLinkSettings_link_same_rate (by rw [link, rate]), link, loadLinkSettings, ← rate]
  · rw [decideOrder_link, setLinkSettings_link_other_rate (by rwa [link]), link]
    rfl
  · rw [decideOrder_link, setLinkSettings_link_ne n, link]
  · rw [← order]
    rfl
  · rw [decideOrder_ctrl, ctrl, judgeSettingsLoaded_ctrl hsettles]
  · rw [decideOrder_inbox, inbox, judgeSettingsLoaded_inbox hsettles]
  · rw [decideOrder_corr, corr]
    simp only [v, judgeSettingsLoaded_downMsgs]

end Sys2Proof.Machine
end

-- ==== Proofs of the family "correction arithmetic": rounding, bounds and the temperature curve (O24) ====
section
/-! SUPPORT. The one division of R73, as its magnitude, its symmetry and the side on which its error lies, and the
interval at which the walk along an ascending curve stops (R77, R78). -/

namespace Sys2Proof.Machine

/-! ### Rounding (R73) -/

section

variable {n : Int} {q : Nat}

theorem roundDiv_of_nonneg (nonneg : 0 ≤ n) : roundDiv n q = ((2 * n.natAbs + q) / (2 * q) : Nat) :=
  if_neg (Int.not_lt.mpr nonneg)

theorem roundDiv_of_neg (neg : n < 0) : roundDiv n q = -((2 * n.natAbs + q) / (2 * q) : Nat) :=
  if_pos neg

theorem natAbs_roundDiv (n : Int) (q : Nat) : (roundDiv n q).natAbs = (2 * n.natAbs + q) / (2 * q) := by
  obtain neg | nonneg := lt_or_ge n 0
  · rw [roundDiv_of_neg neg, Int.natAbs_neg, Int.natAbs_natCast]
  · rw [roundDiv_of_nonneg nonneg, Int.natAbs_natCast]

theorem roundDiv_nonneg (nonneg : 0 ≤ n) : 0 ≤ roundDiv n q := by
  rw [roundDiv_of_nonneg nonneg]
  exact Int.natCast_nonneg _

/-- The added half of the divisor alone makes no whole quotient. -/
theorem roundDiv_zero (q : Nat) : roundDiv 0 q = 0 := by
  rw [← Int.natAbs_eq_zero, natAbs_roundDiv, Nat.div_eq_zero_iff]
  show 2 * q = 0 ∨ 2 * 0 + q < 2 * q
  omega

theorem roundDiv_neg (n : Int) (q : Nat) : roundDiv (-n) q = -roundDiv n q := by
  obtain neg | rfl | pos := Int.lt_trichotomy n 0
  · rw [roundDiv_of_neg neg, roundDiv_of_nonneg (by omega), Int.natAbs_neg, Int.neg_neg]
  · rw [Int.neg_zero, roundDiv_zero, Int.neg_zero]
  · rw [roundDiv_of_nonneg (n := n) (by omega), roundDiv_of_neg (by omega), Int.natAbs_neg]

theorem roundDiv_nonpos (nonpos : n ≤ 0) : roundDiv n q ≤ 0 := by
  have mirrored : 0 ≤ roundDiv (-n) q := roundDiv_nonneg (by omega)
  rw [roundDiv_neg] at mirrored
  omega

/-- The error of a rounded quotient lies above minus a half and at most at a half, so that a tie goes up. -/
theorem roundDiv_error_of_nonneg (divisor : 0 < q) (nonneg : 0 ≤ n) :
    -(q : Int) < 2 * (roundDiv n q * q - n) ∧ 2 * (roundDiv n q * q - n) ≤ q := by
  obtain ⟨m, rfl⟩ := Int.eq_ofNat_of_zero_le nonneg
  rw [roundDiv_of_nonneg nonneg, Int.natAbs_natCast]
  have below := Nat.div_mul_le_self (2 * m + q) (2 * q)
  have above := Nat.lt_div_mul_add (a := 2 * m + q) (b := 2 * q) (by omega)
  rw [Nat.mul_left_comm] at below above
  rw [← Int.natCast_mul]
  omega

theorem roundDiv_error_of_nonpos (divisor : 0 < q) (nonpos : n ≤ 0) :
    -(q : Int) ≤ 2 * (roundDiv n q * q - n) ∧ 2 * (roundDiv n q * q - n) < q := by
  obtain ⟨below, above⟩ := roundDiv_error_of_nonneg divisor (n := -n) (by omega)
  rw [roundDiv_neg, Int.neg_mul] at below above
  omega

theorem roundDiv_nearest (n : Int) (divisor : 0 < q) : 2 * (roundDiv n q * q - n).natAbs ≤ q := by
  obtain nonneg | nonpos := Int.le_total 0 n
  · have := roundDiv_error_of_nonneg divisor nonneg
    omega
  · have := roundDiv_error_of_nonpos divisor nonpos
    omega

theorem roundDiv_tie_away (divisor : 0 < q) (tie : 2 * (roundDiv n q * q - n).natAbs = q) :
    n.natAbs < (roundDiv n q * q).natAbs := by
  obtain nonneg | nonpos := Int.le_total 0 n
  · have := roundDiv_error_of_nonneg divisor nonneg
    omega
  · have := roundDiv_error_of_nonpos divisor nonpos
    omega

end

/-! ### The bounds (R74) -/

theorem clamp64_eq (x : Int) : clamp64 x = max (-(2 ^ 63)) (min x (2 ^ 63 - 1)) := by
  unfold clamp64 i64Min i64Max
  split
  · omega
  · split <;> omega

/-! ### The temperature curve (R77, R78) -/

section

variable {p : Int × Int} {x : Int}

theorem tempAbove_append {before : List (Int × Int)} (a : Int × Int) (rest : List (Int × Int)) (reached : p.1 ≤ x)
    (passed : ∀ b ∈ before, b.1 ≤ x) : tempAbove x a (before ++ p :: rest) = tempAbove x p rest := by
  induction before generalizing a with
  | nil => exact if_neg (Int.not_lt.mpr reached)
  | cons b before ih =>
    obtain ⟨first, others⟩ := List.forall_mem_cons.mp passed
    exact (if_neg (Int.not_lt.mpr first)).trans (ih b others)

theorem passed_of_ascending {before rest : List (Int × Int)}
    (ascending : ((before ++ p :: rest).map Prod.fst).Pairwise (· < ·)) (reached : p.1 ≤ x) :
    ∀ b ∈ before, b.1 ≤ x := by
  intro b earlier
  obtain ⟨-, -, apart⟩ := List.pairwise_append.mp (List.pairwise_map.mp ascending)
  have lower : b.1 < p.1 := apart b earlier p List.mem_cons_self
  omega

/-- The walk along an ascending curve passes every point that the temperature has reached. -/
theorem tempTermOf_reached {before rest : List (Int × Int)}
    (ascending : ((before ++ p :: rest).map Prod.fst).Pairwise (· < ·)) (reached : p.1 ≤ x) :
    tempTermOf (before ++ p :: rest) x = tempAbove x p rest := by
  have passed := passed_of_ascending ascending reached
  cases before with
  | nil => exact if_neg (Int.not_lt.mpr reached)
  | cons b before =>
    obtain ⟨first, others⟩ := List.forall_mem_cons.mp passed
    exact (if_neg (Int.not_lt.mpr first)).trans (tempAbove_append b rest reached others)

theorem tempTermOf_interval {before rest : List (Int × Int)} {q : Int × Int}
    (ascending : ((before ++ p :: q :: rest).map Prod.fst).Pairwise (· < ·)) (reached : p.1 ≤ x) (ahead : x < q.1) :
    tempTermOf (before ++ p :: q :: rest) x =
      (p.2 + roundDiv ((q.2 - p.2) * (x - p.1)) (q.1 - p.1).toNat, false) :=
  (tempTermOf_reached ascending reached).trans (if_pos ahead)

theorem tempTermOf_below (rest : List (Int × Int)) (below : x < p.1) : tempTermOf (p :: rest) x = (p.2, true) :=
  if_pos below

end

/-! ### The divisions of the tide term, the means and the drift amount (R79, R84 to R86) -/

theorem span_pos_of_inside {g : Segment} {x : Nat} (after : g.start ≤ x) (before : x < g.start + g.span) :
    0 < g.span ^ 3 :=
  Nat.pow_pos (by omega)

theorem meanOf_of_accepted (sum : Int) {n : Nat} (accepted : 0 < n) : meanOf sum n = roundDiv sum n :=
  if_neg accepted.ne'

theorem midTimeOf_of_accepted {a : Accumulation} (accepted : 0 < a.accepted) :
    midTimeOf a = (a.firstTime + a.lastTime) / 2 :=
  if_neg accepted.ne'

/-- Settles O24: the rule of R73, and each formula of the chapter as one use of it. -/
theorem roundingIsToNearestTiesAway : Obligations.RoundingIsToNearestTiesAway := by
  refine ⟨fun n q divisor => ⟨natAbs_roundDiv n q, roundDiv_nonneg, roundDiv_nonpos, roundDiv_neg n q,
      roundDiv_nearest n divisor, roundDiv_tie_away divisor⟩, by decide, clamp64_eq, fun _ _ => rfl, fun _ _ _ => rfl,
    fun before rest p q x ascending reached ahead => ⟨by omega, tempTermOf_interval ascending reached ahead⟩,
    fun before p x ascending reached => tempTermOf_reached ascending reached,
    fun p rest x => tempTermOf_below rest,
    fun g x after before => ⟨span_pos_of_inside after before, rfl⟩,
    fun sum n => meanOf_of_accepted sum, fun a => midTimeOf_of_accepted,
    fun e d x v ref t0 close g span => ⟨by omega, ?_⟩⟩
  rw [finalFields_closed e span]

end Sys2Proof.Machine
end

-- ==== Proofs of the family "calibration sets": the record of a load (R93 to R95) ====
section
/-! SUPPORT. The answer of each read of a LOAD_CAL, one equation for each of its cases, and the three checks of R94. -/

namespace Sys2Proof.Machine

/-! ### The checks of the whole record (R94) -/

/-- Check 2 of a calibration record. -/
def CalContents.inRange (k : CalContents) : Prop := k.latency ≤ 10000 ∧ 1 ≤ k.tiltMax ∧ k.tiltMax ≤ 32767

/-- Check 3 of a calibration record. -/
def CalContents.ordered (k : CalContents) : Prop :=
  k.cntMin ≤ k.cntMax ∧ k.tMin ≤ k.tMax ∧ (k.points.map Prod.fst).Pairwise (· < ·)

/-- What R88 asks of a VALID set: checks 2 and 3, and 2 to 16 points. -/
theorem contentsChecked_of {k : CalContents} (range : k.inRange) (order : k.ordered)
    (count : 2 ≤ k.points.length ∧ k.points.length ≤ 16) : contentsChecked k := by
  obtain ⟨latency, tiltLow, tiltHigh⟩ := range
  obtain ⟨cnt, t, ascending⟩ := order
  exact ⟨latency, tiltLow, tiltHigh, cnt, t, count.1, count.2, ascending⟩

section

variable {fixed rest : List Word}

theorem calFault_of_wordSum (sum : wordSum (fixed ++ rest) ≠ 0) : calFault fixed rest = some .calCheck := if_pos sum

theorem calFault_of_range (sum : wordSum (fixed ++ rest) = 0) (range : ¬ (parseCal fixed rest).inRange) :
    calFault fixed rest = some .range :=
  (if_neg (not_not.mpr sum)).trans (if_pos range)

theorem calFault_of_order (sum : wordSum (fixed ++ rest) = 0) (range : (parseCal fixed rest).inRange)
    (order : ¬ (parseCal fixed rest).ordered) : calFault fixed rest = some .calOrder :=
  (if_neg (not_not.mpr sum)).trans ((if_neg (not_not.mpr range)).trans (if_pos order))

/-- A record passes where it meets all three checks. -/
theorem calFault_eq_none : calFault fixed rest = none ↔
    wordSum (fixed ++ rest) = 0 ∧ (parseCal fixed rest).inRange ∧ (parseCal fixed rest).ordered := by
  constructor
  · intro passed
    have sum : wordSum (fixed ++ rest) = 0 := by
      by_contra sum
      cases passed.symm.trans (calFault_of_wordSum sum)
    have range : (parseCal fixed rest).inRange := by
      by_contra range
      cases passed.symm.trans (calFault_of_range sum range)
    refine ⟨sum, range, ?_⟩
    by_contra order
    cases passed.symm.trans (calFault_of_order sum range order)
  · rintro ⟨sum, range, order⟩
    exact (if_neg (not_not.mpr sum)).trans ((if_neg (not_not.mpr range)).trans (if_neg (not_not.mpr order)))

/-- A record holds as many points as its fixed part says. -/
theorem parseCal_points_length : (parseCal fixed rest).points.length = calPointCount fixed := by
  simp only [parseCal, calPoints, List.length_map, List.length_range]

end

/-! ### The answers of the two reads (R93, R95) -/

theorem failLoad_calSet (s : State) (c : SetId) (r : Reason) :
    (s.failLoad c r).calSet c = { s.calSet c with state := .empty, contents := {} } :=
  updCalSet_calSet_same s c fun x => { x with state := .empty, contents := {} }

theorem failLoad_calSet_ne (s : State) {c i : SetId} (r : Reason) (n : i ≠ c) :
    (s.failLoad c r).calSet i = s.calSet i :=
  updCalSet_calSet_ne s c i (fun x => { x with state := .empty, contents := {} }) n

section

variable {s : State} {l : CalLoad} {ws : List Word} (hl : s.cal.load = some l)
include hl

theorem loadAnswered_of_count (first : l.fixed = []) (count : calPointCount ws < 2 ∨ 16 < calPointCount ws) :
    s.loadAnswered ws = s.failLoad l.set .range := by
  simp only [State.loadAnswered, hl, first, count, if_true]

theorem loadAnswered_filled (first : l.fixed = []) (count : ¬ (calPointCount ws < 2 ∨ 16 < calPointCount ws)) :
    s.loadAnswered ws = (s.updCalSet l.set (filledSet ws)).setLoad (some { l with fixed := ws }) := by
  simp only [State.loadAnswered, hl, first, count, if_true, if_false]

theorem loadAnswered_failed {r : Reason} (second : l.fixed ≠ []) (fault : calFault l.fixed ws = some r) :
    s.loadAnswered ws = s.failLoad l.set r := by
  simp only [State.loadAnswered, hl, second, fault, if_false]

theorem loadAnswered_passed (second : l.fixed ≠ []) (passed : calFault l.fixed ws = none) :
    s.loadAnswered ws = s.finishLoad l.set (parseCal l.fixed ws) := by
  simp only [State.loadAnswered, hl, second, passed, if_false]

end

end Sys2Proof.Machine
end

-- ==== Proofs of the family "calibration sets": claims (R89 to R91) ====
section
/-! SUPPORT. Operations that raise or return claims and change nothing else at the Calibration Store: the state and the
contents of every set, and the load in progress, stay as they were. -/

namespace Sys2Proof.Machine

/-- At the Calibration Store at most the use counts differ. -/
def claimsOnly (s t : State) : Prop :=
  t.cal.load = s.cal.load ∧ ∀ c : SetId, t.calSet c = { s.calSet c with use := (t.calSet c).use }

theorem claimsOnly_self (s : State) : claimsOnly s s := ⟨rfl, fun _ => rfl⟩

theorem claimsOnly_of_cal {s t : State} (h : t.cal = s.cal) : claimsOnly s t := by
  unfold claimsOnly State.calSet
  rw [h]
  exact claimsOnly_self s

theorem claimsOnly_of_frame {bs : List Block} {s t : State} (frame : unchangedBut bs s t) (n : .cal ∉ bs) :
    claimsOnly s t := claimsOnly_of_cal (frame.cal n)

theorem claimsOnly.andThen {s t u : State} (h : claimsOnly s t) (g : claimsOnly t u) : claimsOnly s u :=
  ⟨g.1.trans h.1, fun c => by rw [g.2 c, h.2 c]⟩

section

variable (s : State)

theorem updCalSet_claimsOnly (c : SetId) (f : Nat → Nat) :
    claimsOnly s (s.updCalSet c fun x => { x with use := f x.use }) := by
  refine ⟨rfl, fun i => ?_⟩
  rw [updCalSet_calSet_eq]
  split
  · subst i
    rfl
  · rfl

theorem releaseUse_claimsOnly (c : SetId) : claimsOnly s (s.releaseUse c) := updCalSet_claimsOnly s c (· - 1)

/-! ### Looks (R146, R149, R151, R154) -/

theorem returnClaim_claimsOnly (k : Look) : claimsOnly s (s.returnClaim k) := by
  unfold State.returnClaim
  split
  · exact claimsOnly_self s
  · exact releaseUse_claimsOnly s _

theorem refuseSheet_claimsOnly (k : Look) (r : Reason) : claimsOnly s (s.refuseSheet k r) := returnClaim_claimsOnly s k

theorem lookFault_claimsOnly (k : Look) : claimsOnly s (s.lookFault k) :=
  (returnClaim_claimsOnly s k).andThen (claimsOnly_of_frame (endLook_frame _ k _ _) (by decide))

theorem lookStopped_claimsOnly (k : Look) : claimsOnly s (s.lookStopped k) :=
  (returnClaim_claimsOnly s k).andThen (claimsOnly_of_frame (endLook_frame _ k _ _) (by decide))

theorem stopLook_claimsOnly : claimsOnly s s.stopLook := by
  unfold State.stopLook
  split
  · exact claimsOnly_self s
  · split
    · exact claimsOnly_self s
    · exact lookStopped_claimsOnly s _

theorem stopCommand_claimsOnly : claimsOnly s s.stopCommand := by
  unfold State.stopCommand
  split
  · dsimp only
    refine (claimsOnly.andThen ?_ (stopLook_claimsOnly _)).andThen
      (claimsOnly_of_cal ((testStop_frame _).cal (by decide)))
    exact claimsOnly_of_cal ((setEngine_frame s .stopping).cal (by decide))
  all_goals exact claimsOnly_self s

theorem validateHeader_claimsOnly (k : Look) (w : Word) : claimsOnly s (s.validateHeader k w) := by
  unfold State.validateHeader
  split
  · exact refuseSheet_claimsOnly s k _
  · split
    · exact refuseSheet_claimsOnly s k _
    · exact claimsOnly_self s

theorem headerAnswered_claimsOnly (k : Look) (ws : List Word) : claimsOnly s (s.headerAnswered k ws) := by
  unfold State.headerAnswered
  dsimp only
  split
  · exact claimsOnly_of_frame (passCandidate_frame s _ _) (by decide)
  · split
    · split
      · exact claimsOnly_of_frame (endLook_frame s _ _ _) (by decide)
      · exact validateHeader_claimsOnly s _ _
    · exact claimsOnly_of_frame (endLook_frame s _ _ _) (by decide)

theorem requestAnswered_claimsOnly (k : Look) (ws : List Word) : claimsOnly s (s.requestAnswered k ws) := by
  unfold State.requestAnswered
  dsimp only
  split
  · exact refuseSheet_claimsOnly s k _
  · exact claimsOnly_self s

theorem lookAnswered_claimsOnly (k : Look) (ws : List Word) : claimsOnly s (s.lookAnswered k ws) := by
  unfold State.lookAnswered
  split
  · exact claimsOnly_of_frame (candidateAt_frame s _ _) (by decide)
  · exact claimsOnly_of_frame (candidateAt_frame s _ _) (by decide)
  · exact headerAnswered_claimsOnly s k ws
  · exact requestAnswered_claimsOnly s k ws
  · exact claimsOnly_self s
  · exact claimsOnly_self s
  · exact claimsOnly_of_cal ((passCandidate_frame (s.raise _) _ _).cal (by decide))
  all_goals exact claimsOnly_self s

theorem walkerOkay_claimsOnly (ws : List Word) : claimsOnly s (s.walkerOkay ws) := by
  unfold State.walkerOkay
  split
  · exact claimsOnly_self s
  · split
    · exact lookStopped_claimsOnly s _
    · exact lookAnswered_claimsOnly s _ ws

theorem walkerFault_claimsOnly : claimsOnly s s.walkerFault := by
  unfold State.walkerFault
  split
  · exact claimsOnly_self s
  · exact lookFault_claimsOnly s _

theorem presentWalker_claimsOnly : claimsOnly s s.presentWalker := by
  unfold State.presentWalker
  split
  · exact claimsOnly_self s
  · split
    · exact lookFault_claimsOnly (s.recordFault _ _ _ _) _
    · split <;> exact claimsOnly_self s

theorem presentNext_claimsOnly (r : Requester) : claimsOnly s (s.presentNext r) := by
  unfold State.presentNext
  split
  · exact presentWalker_claimsOnly s
  · split <;> exact claimsOnly_self s
  · exact claimsOnly_of_frame (presentTide_frame s) (by decide)
  · exact claimsOnly_of_frame (presentOccupation_frame s) (by decide)
  · split <;> exact claimsOnly_self s
  · split
    · exact claimsOnly_of_frame (presentDirectory_frame s) (by decide)
    · unfold State.presentRefresh
      split <;> exact claimsOnly_self s

/-! ### Occupations (R91) -/

theorem endOccupation_claimsOnly (h : Head) (o : OccOutcome) : claimsOnly s (s.endOccupation h o) :=
  releaseUse_claimsOnly s (s.record h).calSet

theorem linkLoss_claimsOnly (h : Head) : claimsOnly s (s.linkLoss h) := by
  unfold State.linkLoss
  dsimp only
  split
  · exact endOccupation_claimsOnly s h _
  · exact claimsOnly_self s

theorem takeRecord_claimsOnly (h : Head) (a : Word) (q : StationRequest) (role : Role) (l : Option LoopId)
    (g : BitVec 32) (c : SetId) : claimsOnly s (s.takeRecord h a q role l g c) := by
  have entered : claimsOnly s ((s.loadedRecord h a q role l g c).enteredState h) :=
    claimsOnly_of_cal (enteredState_frame.cal (by decide))
  rw [takeRecord_eq]
  split
  · exact entered.andThen (linkLoss_claimsOnly _ h)
  · exact entered

theorem identityAtRecord_claimsOnly (h : Head) (m : IdentityMsg) : claimsOnly s (s.identityAtRecord h m) := by
  unfold State.identityAtRecord
  dsimp only
  split
  · split
    · exact claimsOnly_of_frame (enterSettling_frame s h) (by decide)
    · exact endOccupation_claimsOnly s h _
  · split
    · exact endOccupation_claimsOnly s h _
    · exact claimsOnly_self s
  · split
    · exact endOccupation_claimsOnly s h _
    · exact claimsOnly_self s
  · exact claimsOnly_self s
  · exact claimsOnly_self s

theorem interrupt_claimsOnly (h : Head) : claimsOnly s (s.interrupt h) := by
  unfold State.interrupt
  dsimp only
  split
  · exact endOccupation_claimsOnly (s.updRecord h _) h _
  · exact claimsOnly_of_cal ((enterSettling_frame _ h).cal (by decide))

theorem linkAtRecord_claimsOnly (h : Head) (j : LinkJudge) : claimsOnly s (s.linkAtRecord h j) := by
  unfold State.linkAtRecord
  split
  · split
    · exact linkLoss_claimsOnly s h
    · exact claimsOnly_self s
  · exact claimsOnly_self s

theorem takeCredit_claimsOnly (h : Head) (x : Sample) (t : Nat) (c : Candidate) :
    claimsOnly s (s.takeCredit h x t c) := by
  have placed : claimsOnly s (s.credited h x t c) := claimsOnly_of_frame (credited_frame c) (by decide)
  rw [takeCredit_eq]
  split
  · exact placed.andThen (endOccupation_claimsOnly _ h _)
  · exact placed

theorem takeStation_claimsOnly (k : Look) (q : StationRequest) (c : SetId) (role : Role) :
    claimsOnly s (s.takeStation k q c role) := by
  unfold State.takeStation
  split
  · exact refuseSheet_claimsOnly s k _
  · split
    · exact refuseSheet_claimsOnly s k _
    · rename_i t g check
      have checked : claimsOnly s t := by
        unfold State.sheetLoopCheck at check
        split at check
        · cases check
          exact claimsOnly_self s
        · obtain ⟨u, passed, e⟩ := Option.map_eq_some_iff.mp check
          cases e
          exact claimsOnly_of_frame (loopCheck_frame s _ _ _ passed) (by decide)
      exact (checked.andThen (takeRecord_claimsOnly t _ _ _ _ _ _ _)).andThen
        (claimsOnly_of_frame (passCandidate_frame _ _ _) (by decide))

end

end Sys2Proof.Machine
end

-- ==== Proofs of the family "calibration sets": the sets stay checked (O52) ====
section
/-! O52: claims leave the contents of the sets alone; a load, a clear and a reset leave each set checked (R87, R88). -/

namespace Sys2Proof.Machine

/-- What R87 and R88 say of one set. -/
def setChecked (x : CalSet) : Prop :=
  (x.state = .valid → contentsChecked x.contents) ∧ (x.state = .empty → x.contents = {})

/-- A load that has read its fixed part has found a point count of 2 to 16 (R93). -/
def loadChecked (o : Option CalLoad) : Prop :=
  ∀ l, o = some l → l.fixed ≠ [] → 2 ≤ calPointCount l.fixed ∧ calPointCount l.fixed ≤ 16

theorem setsChecked_iff {s : State} :
    setsChecked s ↔ (∀ c, setChecked (s.calSet c)) ∧ loadChecked s.cal.load := Iff.rfl

theorem setChecked_empty (n : Nat) : setChecked ⟨.empty, n, {}⟩ := ⟨nofun, fun _ => rfl⟩

theorem setChecked_loading (n : Nat) (k : CalContents) : setChecked ⟨.loading, n, k⟩ := ⟨nofun, nofun⟩

theorem setChecked_valid (n : Nat) {k : CalContents} (checked : contentsChecked k) : setChecked ⟨.valid, n, k⟩ :=
  ⟨fun _ => checked, nofun⟩

theorem loadChecked_none : loadChecked none := nofun

theorem loadChecked_begun (c : SetId) (a : Nat) : loadChecked (some ⟨c, a, []⟩) := by
  rintro _ ⟨⟩ read
  exact absurd rfl read

theorem loadChecked_filled (l : CalLoad) {ws : List Word} (count : 2 ≤ calPointCount ws ∧ calPointCount ws ≤ 16) :
    loadChecked (some { l with fixed := ws }) := by
  rintro _ ⟨⟩ _
  exact count

/-- A record that passes the checks of R94 with 2 to 16 points holds what R88 asks of a VALID set. -/
theorem contentsChecked_of_calFault {fixed rest : List Word} (passed : calFault fixed rest = none)
    (count : 2 ≤ calPointCount fixed ∧ calPointCount fixed ≤ 16) : contentsChecked (parseCal fixed rest) := by
  obtain ⟨-, range, order⟩ := calFault_eq_none.mp passed
  rw [← parseCal_points_length (rest := rest)] at count
  exact contentsChecked_of range order count

theorem setsChecked_of_cal {s t : State} (hc : setsChecked s) (h : t.cal = s.cal) : setsChecked t := by
  unfold setsChecked State.calSet at *
  rwa [h]

theorem setsChecked_reset {s : State} (h : s.cal = {}) : setsChecked s :=
  setsChecked_of_cal (s := State.reset) (setsChecked_iff.mpr
    ⟨fun c => by rw [reset_calSet]; exact setChecked_empty 0, loadChecked_none⟩) h

theorem claimsOnly.setsChecked {s t : State} (h : claimsOnly s t) (hc : setsChecked s) : setsChecked t := by
  obtain ⟨sets, load⟩ := setsChecked_iff.mp hc
  refine setsChecked_iff.mpr ⟨fun c => ?_, by rwa [h.1]⟩
  rw [h.2 c]
  exact sets c

section

variable {s : State} (hc : setsChecked s)
include hc

theorem updCalSet_setsChecked {c : SetId} {f : CalSet → CalSet} (hf : setChecked (f (s.calSet c))) :
    setsChecked (s.updCalSet c f) := by
  obtain ⟨sets, load⟩ := setsChecked_iff.mp hc
  refine setsChecked_iff.mpr ⟨fun i => ?_, load⟩
  rw [updCalSet_calSet_eq]
  split
  · exact hf
  · exact sets i

theorem setLoad_setsChecked {l : Option CalLoad} (hl : loadChecked l) : setsChecked (s.setLoad l) := ⟨hc.1, hl⟩

theorem failLoad_setsChecked (c : SetId) (r : Reason) : setsChecked (s.failLoad c r) :=
  setLoad_setsChecked (updCalSet_setsChecked hc (setChecked_empty _)) loadChecked_none

theorem finishLoad_setsChecked (c : SetId) {k : CalContents} (checked : contentsChecked k) :
    setsChecked (s.finishLoad c k) :=
  setLoad_setsChecked (updCalSet_setsChecked hc (setChecked_valid _ checked)) loadChecked_none

/-- Each answer of a load leaves the sets checked; that a set is VALID with 2 to 16 points rests on the count that the
first answer has found. -/
theorem loadAnswered_setsChecked (ws : List Word) : setsChecked (s.loadAnswered ws) := by
  cases hl : s.cal.load with
  | none => simpa only [State.loadAnswered, hl] using hc
  | some l =>
    by_cases first : l.fixed = []
    · by_cases count : calPointCount ws < 2 ∨ 16 < calPointCount ws
      · rw [loadAnswered_of_count hl first count]
        exact failLoad_setsChecked hc _ _
      · rw [loadAnswered_filled hl first count]
        rw [not_or, Nat.not_lt, Nat.not_lt] at count
        exact setLoad_setsChecked (updCalSet_setsChecked hc (setChecked_loading _ _)) (loadChecked_filled l count)
    · cases checks : calFault l.fixed ws with
      | some r =>
        rw [loadAnswered_failed hl first checks]
        exact failLoad_setsChecked hc _ _
      | none =>
        rw [loadAnswered_passed hl first checks]
        exact finishLoad_setsChecked hc _ (contentsChecked_of_calFault checks (hc.2 l hl first))

theorem orderOkay_setsChecked (ws : List Word) : setsChecked (s.orderOkay ws) := by
  unfold State.orderOkay
  split
  · exact setsChecked_of_cal hc ((orderRead_frame s ws).cal (by decide))
  · exact loadAnswered_setsChecked hc ws
  · exact hc
  · exact setsChecked_of_cal hc ((endOrder_frame (s.raise .order)).cal (by decide))
  all_goals exact hc

theorem orderFault_setsChecked (k : FaultKind) : setsChecked (s.orderFault k) := by
  unfold State.orderFault
  split
  · exact hc
  · split
    · exact hc
    · exact failLoad_setsChecked hc _ _
  · exact setsChecked_of_cal hc ((endOrder_frame s).cal (by decide))
  · exact setsChecked_of_cal hc ((endOrder_frame s).cal (by decide))
  all_goals exact hc

/-- Of the requesters, the Order Executor acts on the sets at an answer, and the Sheet Walker on the claims. -/
theorem requesterOkay_setsChecked (r : Requester) (ws : List Word) : setsChecked (s.requesterOkay r ws) := by
  unfold State.requesterOkay
  split
  · exact (walkerOkay_claimsOnly s ws).setsChecked hc
  · exact orderOkay_setsChecked hc ws
  · exact setsChecked_of_cal hc ((tideOkay_frame s ws).cal (by decide))
  · exact setsChecked_of_cal hc ((occOkay_frame s).cal (by decide))
  · exact setsChecked_of_cal hc ((driftOkay_frame s).cal (by decide))
  · exact setsChecked_of_cal hc ((controlOkay_frame s ws).cal (by decide))

theorem portFault_setsChecked (r : Requester) (d : Direction) (a : Nat) (k : FaultKind) :
    setsChecked (s.portFault r d a k) := by
  have recorded : setsChecked (s.recordFault r d a k) := hc
  unfold State.portFault State.requesterFault
  split
  · exact (walkerFault_claimsOnly _).setsChecked recorded
  · exact orderFault_setsChecked recorded k
  · exact setsChecked_of_cal recorded ((tideFault_frame _ k).cal (by decide))
  · exact setsChecked_of_cal recorded ((occFault_frame _).cal (by decide))
  · exact setsChecked_of_cal recorded ((driftFault_frame _).cal (by decide))
  · exact setsChecked_of_cal recorded ((controlFault_frame _).cal (by decide))

theorem formGrant_setsChecked (n : Fin 6) (x : Transfer) : setsChecked (s.formGrant n x) := by
  unfold State.formGrant
  dsimp only
  split
  · exact hc
  · exact portFault_setsChecked (s := { s with port := { s.port with pointer := n } }) hc _ _ _ _

theorem grantOkay_setsChecked (g : Grant) (data : List Word) : setsChecked (s.grantOkay g data) := by
  unfold State.grantOkay
  dsimp only
  split
  · exact hc
  · split
    · exact requesterOkay_setsChecked (s := (s.setGrant none).setSlot g.requester none) hc _ _
    · exact hc

theorem grantRetry_setsChecked (g : Grant) : setsChecked (s.grantRetry g) := by
  unfold State.grantRetry
  split
  · exact hc
  · exact portFault_setsChecked (s := s.setGrant none) hc _ _ _ _

end

theorem exec_setsChecked (c : Instr) {s : State} (hc : setsChecked s) : answersOnly setsChecked (exec c s) := by
  have same {t : State} (h : t.cal = s.cal) : answersOnly setsChecked (.next t) :=
    answersOnly_next (setsChecked_of_cal hc h)
  have idle : answersOnly setsChecked (.next s) := same rfl
  have claims {t : State} (h : claimsOnly s t) : answersOnly setsChecked (.next t) :=
    answersOnly_next (h.setsChecked hc)
  by_cases touches : Block.cal ∈ mayChange c
  · cases c with
    | powerOnReset => exact answersOnly_next (setsChecked_reset rfl)
    | reset w => exact answersOnly_next (setsChecked_reset rfl)
    | stop w => exact claims (stopCommand_claimsOnly (s.loadConfig w))
    | accessPresent r =>
      simp only [exec, execAccessPresent]
      split
      · exact claims (presentNext_claimsOnly s r)
      · exact idle
    | grant =>
      simp only [exec, execGrant]
      split
      · split
        · exact idle
        · split
          · exact idle
          · exact answersOnly_next (formGrant_setsChecked hc _ _)
      · exact idle
    | busAnswer a =>
      simp only [exec, execBusAnswer]
      split
      · exact idle
      · split
        · exact same ((discardedAnswer_frame s).cal (by decide))
        · split
          · split
            · exact answersOnly_next (grantOkay_setsChecked hc _ _)
            · exact idle
          · exact answersOnly_next (grantRetry_setsChecked hc _)
          · exact answersOnly_next (portFault_setsChecked (s := s.setGrant none) hc _ _ _ _)
    | identityReport h =>
      simp only [exec, execIdentityReport]
      split
      · exact idle
      · exact claims (identityAtRecord_claimsOnly (s.updInbox h _) h _)
    | interruption h =>
      simp only [exec, execInterruption]
      split
      · split
        · exact claims (interrupt_claimsOnly (s.updInbox h _) h)
        · exact same rfl
      · exact idle
      · exact idle
    | linkTransitionAtRecord h =>
      simp only [exec, execLinkTransitionAtRecord]
      split
      · exact idle
      · exact claims (linkAtRecord_claimsOnly (s.updInbox h _) h _)
    | credit =>
      simp only [exec, execCredit]
      split
      · exact idle
      · split
        · split
          · split
            · exact idle
            · exact claims ((takeCredit_claimsOnly s _ _ _ _).andThen
                (claimsOnly_of_frame (sampleDone_frame _ _) (by decide)))
          · exact same ((sampleDone_frame s _).cal (by decide))
        · exact idle
    | settleExpiry h =>
      simp only [exec, execSettleExpiry]
      split
      · exact claims (endOccupation_claimsOnly s h _)
      · exact idle
    | acquireExpiry h =>
      simp only [exec, execAcquireExpiry]
      split
      · exact claims (endOccupation_claimsOnly s h _)
      · exact idle
    | graceExpiry h =>
      simp only [exec, execGraceExpiry]
      split
      · exact claims (endOccupation_claimsOnly s h _)
      · exact idle
    | headResetRecordPart =>
      simp only [exec, execHeadResetRecordPart]
      split
      · split
        · exact idle
        · refine claims (claimsOnly.andThen ?_ (claimsOnly_of_frame (resetPart_frame _ _ _ _) (by decide)))
          split
          · exact endOccupation_claimsOnly s _ _
          · exact claimsOnly_self s
      · exact idle
    | cancel =>
      simp only [exec, execCancel]
      split
      · split
        · exact same rfl
        · split
          · exact claims (endOccupation_claimsOnly s _ _)
          · exact same rfl
      · exact idle
    | calibrationCheck =>
      simp only [exec, execCalibrationCheck]
      split
      · exact idle
      · split
        · split
          · exact claims (updCalSet_claimsOnly s _ (· + 1))
          · exact claims (refuseSheet_claimsOnly s _ _)
        · exact idle
    | take =>
      simp only [exec, execTake]
      split
      · exact idle
      · split
        · split
          · exact idle
          · exact claims (takeStation_claimsOnly s _ _ _ _)
        · exact idle
    | loadCal =>
      simp only [exec, execLoadCal]
      split
      · split
        · exact answersOnly_next (setLoad_setsChecked (updCalSet_setsChecked hc (setChecked_loading _ _))
            (loadChecked_begun _ _))
        · exact same rfl
      · exact idle
    | clearCal =>
      simp only [exec, execClearCal]
      split
      · split
        · exact answersOnly_next (setsChecked_of_cal (updCalSet_setsChecked hc
            (f := fun x => { x with state := .empty, contents := {} }) (setChecked_empty _)) rfl)
        · exact same rfl
      · exact idle
    | _ => simp [mayChange] at touches
  · exact fun t e => setsChecked_of_cal hc ((frame_of_exec e).cal touches)

/-- Settles O52: a step is a command, which leaves the sets checked, or one millisecond, which touches no set. -/
theorem validSetsStayChecked : Obligations.ValidSetsStayChecked := by
  intro s t hc h
  rcases step_cases h with ⟨_, rfl⟩ | ⟨c, rest, _, taken⟩
  · exact setsChecked_of_cal hc rfl
  · exact exec_setsChecked c (s := { s with pending := rest }) hc t taken

end Sys2Proof.Machine
end

-- ==== Proofs of the family "calibration sets": the calibration check and the take of an order (O44) ====
section
/-! SUPPORT. CALIBRATION_CHECK by the state of the set, and a candidate passed while an order keeps the engine from
stopping. -/

namespace Sys2Proof.Machine

/-- A frame that names the Control Port, of an event that leaves it as it was. -/
theorem unchangedBut.narrow_ctrl {as bs : List Block} {s t : State} (h : unchangedBut as s t)
    (same : t.ctrl = s.ctrl) (hb : ∀ b ∈ as, b = .ctrl ∨ b ∈ bs) : unchangedBut bs s t := by
  refine ⟨h.1, fun b n => ?_⟩
  by_cases ctrl : b = .ctrl
  · rw [ctrl]
    exact same
  · exact h.2 b fun m => (hb b m).elim ctrl n

theorem setOfByte_ofNat (c : SetId) : setOfByte (BitVec.ofNat 8 c.val) = c := by
  revert c
  decide

section

variable {s : State} {k : Look} {q : StationRequest}

/-! ### The calibration check (R90, R149) -/

theorem exec_calibrationCheck_valid (hk : s.walker.look = some k) (stage : k.stage = .calCheck)
    (hq : k.request = some q) (valid : (s.calSet (setOfByte q.set)).state = .valid) : exec .calibrationCheck s =
      .next ((s.updCalSet (setOfByte q.set) fun x => { x with use := x.use + 1 }).setLook (some
        { k with stage := .takenWrite, claim := some (setOfByte q.set),
                 claimSerial := (s.calSet (setOfByte q.set)).contents.serial })) := by
  simp only [exec, execCalibrationCheck, hk, stage, hq, valid, if_true]

theorem exec_calibrationCheck_refused (hk : s.walker.look = some k) (stage : k.stage = .calCheck)
    (hq : k.request = some q) (invalid : (s.calSet (setOfByte q.set)).state ≠ .valid) :
    exec .calibrationCheck s = .next (s.refuseSheet k .calEmpty) := by
  simp only [exec, execCalibrationCheck, hk, stage, hq, invalid, if_false]

/-- A sheet refused before its calibration check holds no claim to return. -/
theorem refuseSheet_unclaimed (hc : k.claim = none) (r : Reason) :
    s.refuseSheet k r = s.setLook (some { k with stage := .answerWrite r }) := by
  simp only [State.refuseSheet, State.returnClaim, hc]

/-! ### A look that goes on with an order in progress (R152, R154, R188) -/

/-- With an order in progress the stop condition does not hold (R188). -/
theorem testStop_of_order (order : s.order.stage ≠ .none) : s.testStop = s := by
  refine if_neg fun ⟨_, stop⟩ => order ?_
  obtain ⟨_, ended, _⟩ := (stopCondition_iff s).mp stop
  exact ended

theorem endLook_of_order (order : s.order.stage ≠ .none) (st : LaneState) (again : Bool) : s.endLook k st again =
    (s.updLane k.lane fun n => { n with state := st, flag := n.flag || again }).setLook none := by
  unfold State.endLook
  dsimp only
  split
  · exact testStop_of_order order
  · rfl

/-- A taken order sheet passed: the anchor moves, no other lane changes, and the Control Port is left as it is. -/
theorem passCandidate_of_order (order : s.order.stage ≠ .none) :
    (s.passCandidate k false).ctrl = s.ctrl ∧
    (s.passCandidate k false).lane k.lane = { s.lane k.lane with anchor := some k.candidate, state := .waiting } ∧
    ∀ i, i ≠ k.lane → (s.passCandidate k false).lane i = s.lane i := by
  have others (i : Lane) (n : i ≠ k.lane) : (s.moveAnchor k).lane i = s.lane i := updLane_lane_ne s k.lane i _ n
  by_cases last : k.stopped = true ∨ k.next = 0
  · rw [passCandidate_ends last, endLook_of_order (s := s.moveAnchor k) order]
    refine ⟨rfl, ?_, fun i n => ?_⟩
    · rw [setLook_lane, updLane_lane_same, moveAnchor_lane, Bool.or_false]
    · rw [setLook_lane, updLane_lane_ne _ _ _ _ n, others i n]
  · rw [not_or, Bool.not_eq_true] at last
    by_cases aligned : k.next.toNat % 8 = 0
    · rw [passCandidate_aligned last.1 last.2 aligned]
      exact ⟨rfl, moveAnchor_lane, others⟩
    · rw [passCandidate_misaligned last.1 aligned]
      exact ⟨rfl, moveAnchor_lane, others⟩

/-! ### ORDER_TAKE (R152, R160) -/

theorem exec_orderTake (hk : s.walker.look = some k) (stage : k.stage = .orderTake) : exec .orderTake s =
    .next (({ s with order := { sheet := some k.candidate, stage := .reading } } : State).passCandidate k false) := by
  simp only [exec, execOrderTake, hk, stage]

end

/-- Settles O44: the set that the sheet names, VALID or not; then the order taken and the candidate passed. -/
theorem calibrationCheckAndOrderTake : Obligations.CalibrationCheckAndOrderTake := by
  refine ⟨fun s k q c hk stage hq hset hc => ?_, fun s k hk stage => ?_⟩
  · have named : setOfByte q.set = c := by rw [hset, setOfByte_ofNat]
    subst named
    refine ⟨exec_calibrationCheck_valid hk stage hq, fun invalid => ?_⟩
    rw [exec_calibrationCheck_refused hk stage hq invalid, refuseSheet_unclaimed hc]
  · rw [exec_orderTake hk stage]
    have ordered := frame_order s { sheet := some k.candidate, stage := .reading }
    set v : State := { s with order := { sheet := some k.candidate, stage := .reading } }
    have passed := passCandidate_frame v k false
    obtain ⟨ctrl, anchor, others⟩ := passCandidate_of_order (s := v) (k := k) nofun
    refine ⟨_, rfl, passed.order (by decide), anchor, others, ctrl, fun last => ?_, fun going next even => ?_,
      fun going odd => ?_, ordered.andThen (passed.narrow_ctrl ctrl (bs := [.walker]) (by decide)) (by decide)⟩
    · rw [passCandidate_ends last]
      exact endLook_look _ _ _ _
    · rw [passCandidate_aligned going next even]
      rfl
    · rw [passCandidate_misaligned going odd]
      rfl

end Sys2Proof.Machine
end

-- ==== Proofs of the family "calibration sets": orders decided at their owners (O47) ====
section
/-! SUPPORT. Each of the four orders at its owner, one equation for each of its cases. -/

namespace Sys2Proof.Machine

theorem setOfArg_ofNat (c : SetId) : setOfArg (BitVec.ofNat 64 c.val) = c := by
  revert c
  decide

section

variable {s : State}

theorem orderPresented_iff {code : Word} :
    s.orderPresented code = true ↔ s.order.stage = .acting .presented ∧ s.order.code = code := decide_eq_true_iff

/-! ### SET_CLOCK (R165, R190) -/

/-- SET_CLOCK is taken with every record IDLE and every loop FREE (R165). -/
theorem clockFree_iff : (s.allRecordsIdle && s.allLoopsFree) = true ↔
    (∀ h, (s.record h).state = .idle) ∧ ∀ l, (s.loopAt l).state = .free := by
  rw [Bool.and_eq_true, allRecordsIdle_iff, allLoopsFree_iff]

theorem exec_setClock_free (presented : s.orderPresented 1 = true)
    (free : (s.allRecordsIdle && s.allLoopsFree) = true) : exec .setClock s = .next { s with
      ctrl := { s.ctrl with offset := s.order.arg0 - s.ctrl.elapsed, clockSet := true } }.orderDone := by
  simp only [exec, execSetClock, presented, free, if_true]

theorem exec_setClock_inUse (presented : s.orderPresented 1 = true)
    (inUse : (s.allRecordsIdle && s.allLoopsFree) = false) :
    exec .setClock s = .next (s.orderRefused .clockInUse) := by
  simp only [exec, execSetClock, presented, inUse, if_true, Bool.false_eq_true, if_false]

/-! ### LOAD_CAL and CLEAR_CAL (R92, R96) -/

theorem exec_loadCal_unused (presented : s.orderPresented 3 = true)
    (unused : (s.calSet (setOfArg s.order.arg0)).use = 0) : exec .loadCal s =
      .next (((s.updCalSet (setOfArg s.order.arg0) fun x => { x with state := .loading, contents := {} }).setLoad
        (some ⟨setOfArg s.order.arg0, s.order.arg1.toNat, []⟩)).orderWaits .loading) := by
  simp only [exec, execLoadCal, presented, unused, if_true]

theorem exec_loadCal_inUse (presented : s.orderPresented 3 = true)
    (inUse : (s.calSet (setOfArg s.order.arg0)).use ≠ 0) : exec .loadCal s = .next (s.orderRefused .setBusy) := by
  simp only [exec, execLoadCal, presented, inUse, if_true, if_false]

theorem exec_clearCal_unused (presented : s.orderPresented 4 = true)
    (unused : (s.calSet (setOfArg s.order.arg0)).use = 0) : exec .clearCal s =
      .next ((s.updCalSet (setOfArg s.order.arg0) fun x => { x with state := .empty, contents := {} }).orderDone) := by
  simp only [exec, execClearCal, presented, unused, if_true]

theorem exec_clearCal_inUse (presented : s.orderPresented 4 = true)
    (inUse : (s.calSet (setOfArg s.order.arg0)).use ≠ 0) : exec .clearCal s = .next (s.orderRefused .setBusy) := by
  simp only [exec, execClearCal, presented, inUse, if_true, if_false]

/-! ### SWAP_TIDE (R108, R109) -/

theorem exec_swapTide_empty (presented : s.orderPresented 5 = true) (empty : s.order.arg1 = 0) :
    exec .swapTide s = .next (s.changeTable none).orderDone := by
  have count : s.order.arg1.toNat = 0 := by rw [empty]; rfl
  simp only [exec, execSwapTide, presented, count, if_true]

theorem exec_swapTide_scan (presented : s.orderPresented 5 = true) (counted : s.order.arg1 ≠ 0) :
    exec .swapTide s =
      .next ((s.beginScan s.order.arg0.toNat s.order.arg1.toNat .order).orderWaits .scanning) := by
  have count : s.order.arg1.toNat ≠ 0 := fun e => counted (BitVec.eq_of_toNat_eq e)
  simp only [exec, execSwapTide, presented, count, if_true, if_false]

end

/-- Settles O47: each order, presented with its code, with its owner free and in use. -/
theorem ordersDecidedAtTheirOwners : Obligations.OrdersDecidedAtTheirOwners := by
  intro s answered stage hanswered
  obtain rfl : answered = fun st r => { s.order with status := some st, reason := r, stage := .answerWord } :=
    funext fun st => funext (hanswered st)
  have presented {n : Word} (code : s.order.code = n) := orderPresented_iff.mpr ⟨stage, code⟩
  refine ⟨fun code => ⟨fun idle free => ?_, fun busy => ?_⟩, fun c hset => ?_, fun code =>
    ⟨exec_swapTide_empty (presented code), exec_swapTide_scan (presented code)⟩⟩
  · exact exec_setClock_free (presented code) (clockFree_iff.mpr ⟨idle, free⟩)
  · refine exec_setClock_inUse (presented code) (Bool.eq_false_iff.mpr fun clear => ?_)
    obtain ⟨idle, free⟩ := clockFree_iff.mp clear
    exact busy.elim (fun ⟨h, n⟩ => n (idle h)) fun ⟨l, n⟩ => n (free l)
  · have named : setOfArg s.order.arg0 = c := by rw [hset, setOfArg_ofNat]
    subst named
    refine ⟨fun code unused => ⟨_, exec_loadCal_unused (presented code) unused, ?_, fun i n => ?_, rfl, rfl, ?_⟩,
      fun code => exec_loadCal_inUse (presented code),
      fun code unused => ⟨_, exec_clearCal_unused (presented code) unused, ?_, fun i n => ?_, rfl, ?_⟩,
      fun code => exec_clearCal_inUse (presented code)⟩
    · rw [orderWaits_calSet, setLoad_calSet, updCalSet_calSet_same]
    · rw [orderWaits_calSet, setLoad_calSet, updCalSet_calSet_ne _ _ _ _ n]
    · exact frame_of_exec (exec_loadCal_unused (presented code) unused)
    · exact updCalSet_calSet_same s _ fun x => { x with state := .empty, contents := {} }
    · exact updCalSet_calSet_ne s _ i (fun x => { x with state := .empty, contents := {} }) n
    · exact frame_of_exec (exec_clearCal_unused (presented code) unused)

end Sys2Proof.Machine
end

-- ==== Proofs of the family "calibration sets": the reads of a load (O58) ====
section
/-! SUPPORT. What the Order Executor makes of an answer and of a fault while a load is read. -/

namespace Sys2Proof.Machine

section

variable {s : State} (stage : s.order.stage = .acting .loading)
include stage

theorem orderOkay_loading (ws : List Word) : s.orderOkay ws = s.loadAnswered ws := by
  simp only [State.orderOkay, stage]

theorem orderFault_loading {l : CalLoad} (hl : s.cal.load = some l) (k : FaultKind) :
    s.orderFault k = s.failLoad l.set (reasonOfFault k) := by
  simp only [State.orderFault, stage, hl]

end

theorem reasonOfFault_eq (k : FaultKind) : reasonOfFault k = if k = .window then .window else .memory := by
  cases k <;> rfl

/-- Settles O58: a fault of either read; the fixed part, by its point count; the whole record, by the three checks. -/
theorem calibrationLoadsAnswered : Obligations.CalibrationLoadsAnswered := by
  refine ⟨fun s l k c hf stage hl => ?_, fun s u data ws l n k failed done stage hl hu hfailed => ?_⟩
  · obtain ⟨u, d, a, taken, fault, _, _, ctrl, frame⟩ := requesterFault_of_faults hf
    have order : u.order = s.order := frame.order (by decide)
    have cal : u.cal = s.cal := frame.cal (by decide)
    have sets (i : SetId) : u.calSet i = s.calSet i := congrArg (fun x : CalibrationStore => x.sets[i]) cal
    have ended : u.requesterFault .orderExecutor k = u.failLoad l.set (reasonOfFault k) :=
      orderFault_loading (order ▸ stage) (cal ▸ hl) k
    refine ⟨_, taken.trans (congrArg _ ended), ?_, fun i n => ?_, rfl, ?_, ctrl, ⟨d, a, fault⟩,
      frame.andThen (failLoad_frame u _ _) (by decide)⟩
    · rw [failLoad_calSet, sets]
    · rw [failLoad_calSet_ne u _ n, sets]
    · rw [← order, ← reasonOfFault_eq]
      rfl
  · obtain rfl : failed = _ := funext hfailed
    subst hu
    have answer : exec (.busAnswer (.okay data)) s = .next ((s.freed .orderExecutor).loadAnswered ws) :=
      (exec_okay_of_completes done).trans (congrArg _ (orderOkay_loading (s := s.freed .orderExecutor) stage ws))
    have load : (s.freed .orderExecutor).cal.load = some l := hl
    rw [answer]
    refine ⟨fun first hn => ?_, fun second hk => ?_⟩
    · subst hn
      refine ⟨fun count => ?_, fun low high => ?_⟩
      · rw [loadAnswered_of_count load first count]
        rfl
      · rw [loadAnswered_filled load first (not_or.mpr ⟨Nat.not_lt.mpr low, Nat.not_lt.mpr high⟩)]
        rfl
    · subst hk
      refine ⟨fun sum => ?_, fun sum range => ?_, fun sum latency low high =>
        ⟨fun order => ?_, fun cnt t ascending => ?_⟩⟩
      · rw [loadAnswered_failed load second (calFault_of_wordSum sum)]
        rfl
      · have outside : ¬ (parseCal l.fixed ws).inRange := fun ⟨latency, low, high⟩ => by omega
        rw [loadAnswered_failed load second (calFault_of_range sum outside)]
        rfl
      · have unordered : ¬ (parseCal l.fixed ws).ordered := by
          rintro ⟨cnt, t, ascending⟩
          rcases order with order | order | order
          · omega
          · omega
          · exact order ascending
        rw [loadAnswered_failed load second (calFault_of_order sum ⟨latency, low, high⟩ unordered)]
        rfl
      · have passed := calFault_eq_none.mpr ⟨sum, ⟨latency, low, high⟩, cnt, t, ascending⟩
        rw [loadAnswered_passed load second passed]
        rfl

end Sys2Proof.Machine
end

-- ==== Proofs of the family "tide tables": the segment cache keeps its shape (O27) ====
section
/-! O27: the cache is emptied, refreshed at its most recently used end, or left; one lemma for each operation of the Tide
Unit, and for the answers and faults at the port that reach it (R102, R103, R105). -/

namespace Sys2Proof.Machine

/-! ### The two ways an entry comes to the most recently used end (R103, R105) -/

/-- An entry that joins other entries than those of its index leaves no two of one index. -/
theorem nodup_index_append {x : CacheEntry} {c kept : List CacheEntry} (distinct : (c.map CacheEntry.index).Nodup)
    (sub : kept.Sublist (c.filter fun y => y.index ≠ x.index)) : ((kept ++ [x]).map CacheEntry.index).Nodup := by
  have others : (kept.map CacheEntry.index).Nodup := distinct.sublist ((sub.trans List.filter_sublist).map _)
  have fresh : x.index ∉ kept.map CacheEntry.index := by
    rintro same
    obtain ⟨y, hy, hi⟩ := List.mem_map.mp same
    exact of_decide_eq_true (List.mem_filter.mp (sub.subset hy)).2 hi
  rw [List.map_append, List.map_singleton]
  exact others.append (List.nodup_singleton _) (List.disjoint_singleton.mpr fresh)

section

variable {x : CacheEntry} {c : List CacheEntry}

theorem touchCache_nodup (distinct : (c.map CacheEntry.index).Nodup) :
    ((touchCache x c).map CacheEntry.index).Nodup := nodup_index_append distinct (List.Sublist.refl _)

/-- A hit leaves its old place before it takes the new one. -/
theorem touchCache_length (hit : x ∈ c) : (touchCache x c).length ≤ c.length := by
  have fewer : (c.filter fun y => y.index ≠ x.index).length < c.length :=
    List.length_filter_lt_length_iff_exists.mpr ⟨x, hit, by simp⟩
  rw [touchCache, List.length_append, List.length_singleton]
  exact fewer

theorem insertCache_nodup (distinct : (c.map CacheEntry.index).Nodup) :
    ((insertCache x c).map CacheEntry.index).Nodup := by
  refine nodup_index_append distinct ?_
  split
  · exact List.Sublist.refl _
  · exact List.tail_sublist _

/-- With four entries of other index the least recently used one makes room. -/
theorem insertCache_length (room : c.length ≤ 4) : (insertCache x c).length ≤ 4 := by
  have fewer : (c.filter fun y => y.index ≠ x.index).length ≤ 4 := (List.length_filter_le _ c).trans room
  rw [insertCache, List.length_append, List.length_singleton]
  split
  · assumption
  · rw [List.length_tail]
    omega

end

/-! ### What the shape is told by -/

theorem cacheShaped_of_cache {s t : State} (hc : cacheShaped s) (h : t.tide.cache = s.tide.cache) : cacheShaped t := by
  unfold cacheShaped
  rwa [h]

theorem cacheShaped_of_tide {s t : State} (hc : cacheShaped s) (h : t.tide = s.tide) : cacheShaped t :=
  cacheShaped_of_cache hc (congrArg TideUnit.cache h)

theorem cacheShaped_of_empty {s : State} (h : s.tide.cache = []) : cacheShaped s := by
  unfold cacheShaped
  rw [h]
  exact ⟨Nat.zero_le _, List.nodup_nil⟩

theorem changeTable_cacheShaped (s : State) (x : Option TideTable) : cacheShaped (s.changeTable x) :=
  cacheShaped_of_empty rfl

theorem commitTable_cacheShaped (s : State) (p : PendingTable) (o : ScanOwner) : cacheShaped (s.commitTable p o) := by
  have emptied : cacheShaped (s.changeTable (some (scannedTable p))).endScan := cacheShaped_of_empty rfl
  cases o with
  | order => exact emptied
  | starting => exact cacheShaped_of_tide emptied ((enterRunning_frame _).tide (by decide))

section

variable {s : State} (hc : cacheShaped s)
include hc

theorem touch_cacheShaped {x : CacheEntry} (hit : x ∈ s.tide.cache) :
    cacheShaped (s.setCache (touchCache x s.tide.cache)) :=
  ⟨(touchCache_length hit).trans hc.1, touchCache_nodup hc.2⟩

theorem insert_cacheShaped (x : CacheEntry) : cacheShaped (s.setCache (insertCache x s.tide.cache)) :=
  ⟨insertCache_length hc.1, insertCache_nodup hc.2⟩

/-! ### The operations of the Tide Unit -/

theorem commitIfReady_cacheShaped : cacheShaped s.commitIfReady := by
  unfold State.commitIfReady
  split
  · split
    · exact commitTable_cacheShaped s _ _
    · exact hc
  · exact hc

theorem failScan_cacheShaped (r : Reason) : cacheShaped (s.failScan r) := by
  unfold State.failScan
  split
  · exact hc
  · exact hc
  · exact cacheShaped_of_tide (changeTable_cacheShaped s.endScan none) ((enterFaulted_frame _ _).tide (by decide))

theorem adoptTable_cacheShaped (a n : Nat) : cacheShaped (s.adoptTable a n) := by
  unfold State.adoptTable
  split
  · exact cacheShaped_of_tide (changeTable_cacheShaped s none) ((enterRunning_frame _).tide (by decide))
  · exact hc

theorem endLookup_cacheShaped (v : Option Int) : cacheShaped (s.endLookup v) :=
  commitIfReady_cacheShaped (s := (s.answerTide v).setLookup none)
    (cacheShaped_of_tide (t := s.answerTide v) hc ((answerTide_frame s v).tide (by decide)))

theorem beginLookup_cacheShaped (t : Nat) : cacheShaped (s.beginLookup t) := by
  unfold State.beginLookup
  split
  · exact endLookup_cacheShaped hc _
  · split
    · exact endLookup_cacheShaped (touch_cacheShaped hc (List.mem_of_find?_eq_some (by assumption))) _
    · split
      · exact endLookup_cacheShaped hc _
      · exact hc

theorem probeAnswered_cacheShaped (k : Lookup) (g : Segment) : cacheShaped (s.probeAnswered k g) := by
  unfold State.probeAnswered
  dsimp only
  split
  · split
    · exact endLookup_cacheShaped hc _
    · exact hc
  · split
    · split
      · exact endLookup_cacheShaped hc _
      · exact hc
    · exact hc

theorem segmentAnswered_cacheShaped (k : Lookup) (g : Segment) : cacheShaped (s.segmentAnswered k g) := by
  unfold State.segmentAnswered
  split
  · refine endLookup_cacheShaped ?_ _
    split
    · exact insert_cacheShaped hc _
    · exact hc
  · exact endLookup_cacheShaped hc _

theorem scanAnswered_cacheShaped (g : Segment) : cacheShaped (s.scanAnswered g) := by
  unfold State.scanAnswered
  split
  · exact hc
  · split
    · exact failScan_cacheShaped hc _
    · exact commitIfReady_cacheShaped (s := { s with tide := { s.tide with pendingTable := _ } }) hc

theorem tideOkay_cacheShaped (ws : List Word) : cacheShaped (s.tideOkay ws) := by
  have freed : cacheShaped s.freeTideSlot := hc
  unfold State.tideOkay
  split
  · exact hc
  · exact scanAnswered_cacheShaped freed _
  · split
    · exact hc
    · split
      · exact probeAnswered_cacheShaped freed _ _
      · exact segmentAnswered_cacheShaped freed _ _

theorem tideFault_cacheShaped (k : FaultKind) : cacheShaped (s.tideFault k) := by
  have freed : cacheShaped s.freeTideSlot := hc
  unfold State.tideFault
  split
  · exact hc
  · exact endLookup_cacheShaped freed _
  · exact failScan_cacheShaped freed _

/-! ### Answers at the port: the Tide Unit's own, and the directory's table (R114) -/

theorem controlOkay_cacheShaped (ws : List Word) : cacheShaped (s.controlOkay ws) := by
  unfold State.controlOkay
  split
  · unfold State.directoryAnswered
    split
    · exact cacheShaped_of_tide hc ((enterFaulted_frame s _).tide (by decide))
    · exact adoptTable_cacheShaped (cacheShaped_of_tide hc ((loadDirectory_frame s _).tide (by decide))) _ _
  · exact cacheShaped_of_tide hc ((refreshOkay_frame s).tide (by decide))
  · exact cacheShaped_of_tide hc ((refreshOkay_frame s).tide (by decide))

theorem requesterOkay_cacheShaped (r : Requester) (ws : List Word) : cacheShaped (s.requesterOkay r ws) := by
  unfold State.requesterOkay
  split
  · exact cacheShaped_of_tide hc ((walkerOkay_frame s ws).tide (by decide))
  · exact cacheShaped_of_tide hc ((orderOkay_frame s ws).tide (by decide))
  · exact tideOkay_cacheShaped hc ws
  · exact cacheShaped_of_tide hc ((occOkay_frame s).tide (by decide))
  · exact cacheShaped_of_tide hc ((driftOkay_frame s).tide (by decide))
  · exact controlOkay_cacheShaped hc ws

theorem portFault_cacheShaped (r : Requester) (d : Direction) (a : Nat) (k : FaultKind) :
    cacheShaped (s.portFault r d a k) := by
  have recorded : cacheShaped (s.recordFault r d a k) := hc
  unfold State.portFault State.requesterFault
  split
  · exact cacheShaped_of_tide recorded ((walkerFault_frame _).tide (by decide))
  · exact cacheShaped_of_tide recorded ((orderFault_frame _ k).tide (by decide))
  · exact tideFault_cacheShaped recorded k
  · exact cacheShaped_of_tide recorded ((occFault_frame _).tide (by decide))
  · exact cacheShaped_of_tide recorded ((driftFault_frame _).tide (by decide))
  · exact cacheShaped_of_tide recorded ((controlFault_frame _).tide (by decide))

theorem formGrant_cacheShaped (n : Fin 6) (x : Transfer) : cacheShaped (s.formGrant n x) := by
  unfold State.formGrant
  dsimp only
  split
  · exact hc
  · exact portFault_cacheShaped (s := { s with port := { s.port with pointer := n } }) hc _ _ _ _

theorem grantOkay_cacheShaped (g : Grant) (data : List Word) : cacheShaped (s.grantOkay g data) := by
  unfold State.grantOkay
  dsimp only
  split
  · exact hc
  · split
    · exact requesterOkay_cacheShaped (s := (s.setGrant none).setSlot g.requester none) hc _ _
    · exact hc

theorem grantRetry_cacheShaped (g : Grant) : cacheShaped (s.grantRetry g) := by
  unfold State.grantRetry
  split
  · exact hc
  · exact portFault_cacheShaped (s := s.setGrant none) hc _ _ _ _

/-- The Tide Unit notes the access that it presents, and keeps its cache (R107). -/
theorem presentTide_cacheShaped : cacheShaped s.presentTide := by
  unfold State.presentTide
  split <;> exact hc

theorem presentNext_cacheShaped (r : Requester) : cacheShaped (s.presentNext r) := by
  unfold State.presentNext
  split
  · exact cacheShaped_of_tide hc ((presentWalker_frame s).tide (by decide))
  · split <;> exact hc
  · exact presentTide_cacheShaped hc
  · exact cacheShaped_of_tide hc ((presentOccupation_frame s).tide (by decide))
  · split <;> exact hc
  · split
    · exact cacheShaped_of_tide hc ((presentDirectory_frame s).tide (by decide))
    · unfold State.presentRefresh
      split <;> exact hc

/-! ### Every command -/

/-- A command that touches the Tide Unit keeps the shape; the others leave the cache, by their frame. -/
theorem exec_cacheShaped (c : Instr) : answersOnly cacheShaped (exec c s) := by
  have idle : answersOnly cacheShaped (.next s) := answersOnly_next hc
  by_cases touches : Block.tide ∈ mayChange c
  · cases c with
    | powerOnReset => exact answersOnly_next (cacheShaped_of_empty rfl)
    | reset w => exact answersOnly_next (cacheShaped_of_empty rfl)
    | accessPresent r =>
      simp only [exec, execAccessPresent]
      split
      · exact answersOnly_next (presentNext_cacheShaped hc r)
      · exact idle
    | grant =>
      simp only [exec, execGrant]
      split
      · split
        · exact idle
        · split
          · exact idle
          · exact answersOnly_next (formGrant_cacheShaped hc _ _)
      · exact idle
    | busAnswer a =>
      simp only [exec, execBusAnswer]
      split
      · exact idle
      · split
        · exact answersOnly_next (cacheShaped_of_tide hc ((discardedAnswer_frame s).tide (by decide)))
        · split
          · split
            · exact answersOnly_next (grantOkay_cacheShaped hc _ _)
            · exact idle
          · exact answersOnly_next (grantRetry_cacheShaped hc _)
          · exact answersOnly_next (portFault_cacheShaped (s := s.setGrant none) hc _ _ _ _)
    | tideLookup =>
      simp only [exec, execTideLookup]
      split
      · split
        · exact answersOnly_next (beginLookup_cacheShaped hc _)
        all_goals exact idle
      · exact idle
    | swapTide =>
      simp only [exec, execSwapTide]
      split
      · split
        · exact answersOnly_next (changeTable_cacheShaped s none)
        · exact answersOnly_next hc
      · exact idle
    | _ => simp [mayChange] at touches
  · exact fun t e => cacheShaped_of_tide hc ((frame_of_exec e).tide touches)

end

/-- Settles O27: a step is a command, which keeps the shape of the cache, or one millisecond, which leaves the cache. -/
theorem segmentCacheKeepsItsShape : Obligations.SegmentCacheKeepsItsShape := by
  intro s t hc h
  rcases step_cases h with ⟨_, rfl⟩ | ⟨c, rest, _, taken⟩
  · exact hc
  · exact exec_cacheShaped (s := { s with pending := rest }) hc c t taken

end Sys2Proof.Machine
end

-- ==== Proofs of the family "tide tables": the directory read (O53) ====
section
/-! SUPPORT. The engine's entries into RUNNING and FAULTED at the Control Port and the Sheet Walker, the five checks of the
directory, and what each owner loads of it; the statement is read off these. -/

namespace Sys2Proof.Machine

/-! ### A request for a refresh, field by field (R193) -/

section

variable (c : ControlPort)

theorem refreshRequested_eq :
    ∃ f p, refreshRequested c = { c with refresh := f, refreshPending := p } := by
  unfold refreshRequested
  split
  · exact ⟨c.refresh, c.refreshPending, rfl⟩
  · split
    · exact ⟨_, c.refreshPending, rfl⟩
    · exact ⟨c.refresh, _, rfl⟩

@[simp] theorem refreshRequested_engine : (refreshRequested c).engine = c.engine := by
  obtain ⟨f, p, e⟩ := refreshRequested_eq c
  rw [e]

@[simp] theorem refreshRequested_elapsed : (refreshRequested c).elapsed = c.elapsed := by
  obtain ⟨f, p, e⟩ := refreshRequested_eq c
  rw [e]

@[simp] theorem refreshRequested_faultReason : (refreshRequested c).faultReason = c.faultReason := by
  obtain ⟨f, p, e⟩ := refreshRequested_eq c
  rw [e]

@[simp] theorem refreshRequested_starting : (refreshRequested c).starting = c.starting := by
  obtain ⟨f, p, e⟩ := refreshRequested_eq c
  rw [e]

@[simp] theorem refreshRequested_raised : (refreshRequested c).raised = c.raised := by
  obtain ⟨f, p, e⟩ := refreshRequested_eq c
  rw [e]

@[simp] theorem refreshRequested_statusAddress : (refreshRequested c).statusAddress = c.statusAddress := by
  obtain ⟨f, p, e⟩ := refreshRequested_eq c
  rw [e]

@[simp] theorem refreshRequested_statusInterval : (refreshRequested c).statusInterval = c.statusInterval := by
  obtain ⟨f, p, e⟩ := refreshRequested_eq c
  rw [e]

@[simp] theorem refreshRequested_statusTimer : (refreshRequested c).statusTimer = c.statusTimer := by
  obtain ⟨f, p, e⟩ := refreshRequested_eq c
  rw [e]

variable {c}

theorem refreshRequested_begins {a : Word} (addressed : c.statusAddress = some a) (idle : c.refresh = none) :
    (refreshRequested c).refresh = some .odd := by
  simp only [refreshRequested, addressed, idle, reduceCtorEq, if_false, if_true]

/-- A refresh in progress goes on; the request waits as the pending flag. -/
theorem refreshRequested_refresh {r : Refresh} (going : c.refresh = some r) :
    (refreshRequested c).refresh = some r := by
  unfold refreshRequested
  split
  · exact going
  · simp only [going, reduceCtorEq, if_false]

end

/-! ### Entries into RUNNING and FAULTED (R141, R186, R187) -/

section

variable (s : State)

theorem setEngine_ctrl (e : EngineState) : (s.setEngine e).ctrl =
    refreshRequested { s.ctrl with engine := e, raised := s.ctrl.raised ++ [.engine] } := requestRefresh_ctrl _

theorem enterRunning_ctrl : s.enterRunning.ctrl = refreshRequested
    { s.ctrl with starting := none, engine := .running, raised := s.ctrl.raised ++ [.engine] } :=
  setEngine_ctrl { s with ctrl := { s.ctrl with starting := none }
                          walker := { s.walker with pollTimer := s.pollExpiry } } .running

theorem enterRunning_walker : s.enterRunning.walker = { s.walker with
    pollTimer := s.pollExpiry, lanes := s.walker.lanes.map fun n => { n with flag := true } } := by
  unfold State.enterRunning State.setAllFlags
  dsimp only
  rw [(setEngine_frame _ _).walker (by decide)]
  rfl

theorem enterRunning_lane (n : Lane) : s.enterRunning.lane n = { s.lane n with flag := true } := by
  unfold State.lane
  rw [enterRunning_walker]
  exact Vector.getElem_map _ _

theorem enterFaulted_ctrl (r : FaultReason) : (s.enterFaulted r).ctrl = refreshRequested
    { s.ctrl with
      starting := none, faultReason := r, engine := .faulted, raised := s.ctrl.raised ++ [.engine] } :=
  setEngine_ctrl _ _

end

/-! ### The checks of the directory (R187) -/

theorem windowOk_iff {w : Window} : windowOk w = true ↔ w.base % 8 = 0 ∧ w.limit % 8 = 0 ∧ w.base < w.limit :=
  decide_eq_true_iff

theorem windowsOk_iff {d : Directory} : windowsOk d = true ↔
    d.sheetWindow.base % 8 = 0 ∧ d.sheetWindow.limit % 8 = 0 ∧ d.sheetWindow.base < d.sheetWindow.limit ∧
    d.tableWindow.base % 8 = 0 ∧ d.tableWindow.limit % 8 = 0 ∧ d.tableWindow.base < d.tableWindow.limit ∧
    d.statusAddress.toNat % 8 = 0 ∧ d.sheetWindow.base ≤ d.statusAddress.toNat ∧
    d.statusAddress.toNat + 0x1C0 ≤ d.sheetWindow.limit := by
  simp only [windowsOk, Bool.and_eq_true, windowOk_iff, decide_eq_true_eq, and_assoc]
  rfl

theorem rootsOk_iff {d : Directory} : rootsOk d = true ↔
    ∀ r ∈ d.roots, r = 0 ∨ (r % 8 = 0 ∧ d.sheetWindow.base ≤ r ∧ r < d.sheetWindow.limit) := by
  simp only [rootsOk, List.all_eq_true, decide_eq_true_eq]

theorem rangesOk_iff {d : Directory} : rangesOk d = true ↔
    (d.pollInterval = 0 ∨ (10 ≤ d.pollInterval ∧ d.pollInterval ≤ 60000)) ∧
    (d.statusInterval = 0 ∨ (100 ≤ d.statusInterval ∧ d.statusInterval ≤ 60000)) ∧
    1 ≤ d.spanLimit ∧ d.spanLimit ≤ 1440 ∧ d.retryCode ≤ 3 ∧ 4 ≤ d.grantSize ∧ d.grantSize ≤ 64 ∧
    d.tideCount ≤ 4096 ∧ (d.tideCount ≠ 0 → d.tideAddress % 8 = 0) := by
  simp only [rangesOk, decide_eq_true_eq, and_assoc]

section

variable {ws : List Word} {passes : FaultReason → Prop}
  (signature : passes .signature ↔ (parseDirectory ws).signature = Config.signature)
  (check : passes .check ↔ wordSum ws = 0)
  (windows : passes .windows ↔ windowsOk (parseDirectory ws) = true)
  (roots : passes .roots ↔ rootsOk (parseDirectory ws) = true)
  (range : passes .range ↔ rangesOk (parseDirectory ws) = true)
include signature check windows roots range

/-- The checks are taken in their order, and the first that fails is the reason. -/
theorem directoryFault_first {r : FaultReason}
    (first : r = .signature ∧ ¬ passes .signature ∨ passes .signature ∧
      (r = .check ∧ ¬ passes .check ∨ passes .check ∧
        (r = .windows ∧ ¬ passes .windows ∨ passes .windows ∧
          (r = .roots ∧ ¬ passes .roots ∨ passes .roots ∧ r = .range ∧ ¬ passes .range)))) :
    directoryFault ws = some r := by
  rw [signature, check, windows, roots, range] at first
  unfold directoryFault
  rcases first with ⟨rfl, h1⟩ | ⟨h1, ⟨rfl, h2⟩ | ⟨h2, ⟨rfl, h3⟩ | ⟨h3, ⟨rfl, h4⟩ | ⟨h4, rfl, h5⟩⟩⟩⟩
  · exact if_pos h1
  · exact (if_neg (not_not.mpr h1)).trans (if_pos h2)
  · simp [h1, h2, h3]
  · simp [h1, h2, h3, h4]
  · simp [h1, h2, h3, h4, h5]

theorem directoryFault_none (h1 : passes .signature) (h2 : passes .check) (h3 : passes .windows)
    (h4 : passes .roots) (h5 : passes .range) : directoryFault ws = none := by
  rw [signature] at h1
  rw [check] at h2
  rw [windows] at h3
  rw [roots] at h4
  rw [range] at h5
  simp only [directoryFault, h1, h2, h3, h4, h5, ne_eq, not_true_eq_false, if_false]

end

/-! ### The load of its parts, and the adoption of its table (R114, R187) -/

section

variable (s : State) (d : Directory)

theorem loadDirectory_port : (s.loadDirectory d).port = { s.port with
    sheetWindow := some d.sheetWindow, tableWindow := some d.tableWindow,
    retryLimit := retryLimitOf d.retryCode, grantSize := d.grantSize } :=
  (requestRefresh_frame _).port (by decide)

theorem loadDirectory_walker : (s.loadDirectory d).walker =
    { s.walker with pollInterval := d.pollInterval, directory := s.ctrl.directory } :=
  (requestRefresh_frame _).walker (by decide)

theorem loadDirectory_ctrl : (s.loadDirectory d).ctrl = refreshRequested { s.ctrl with
    statusAddress := some d.statusAddress, statusInterval := d.statusInterval,
    statusTimer := if d.statusInterval = 0 then none else some (s.now + d.statusInterval),
    starting := some .scan } := requestRefresh_ctrl _

theorem loadDirectory_tide : (s.loadDirectory d).tide = s.tide := (loadDirectory_frame s d).tide (by decide)

theorem loadDirectory_lane (n : Lane) : (s.loadDirectory d).lane n = s.lane n := by
  unfold State.lane
  rw [loadDirectory_walker]

theorem loadDirectory_now : (s.loadDirectory d).now = s.now := by
  unfold State.now
  rw [loadDirectory_ctrl, refreshRequested_elapsed]

theorem loadDirectory_engine : (s.loadDirectory d).ctrl.engine = s.ctrl.engine := by
  rw [loadDirectory_ctrl, refreshRequested_engine]

theorem loadDirectory_starting : (s.loadDirectory d).ctrl.starting = some .scan := by
  rw [loadDirectory_ctrl, refreshRequested_starting]

theorem loadDirectory_raised : (s.loadDirectory d).ctrl.raised = s.ctrl.raised := by
  rw [loadDirectory_ctrl, refreshRequested_raised]

variable (a n : Nat)

theorem adoptTable_empty : s.adoptTable a 0 = (s.changeTable none).enterRunning := rfl

theorem adoptTable_counted (counted : n ≠ 0) : s.adoptTable a n = s.beginScan a n .starting := if_neg counted

/-- The adoption of a table leaves what the walker has loaded. -/
theorem adoptTable_walker : (s.adoptTable a n).walker.pollInterval = s.walker.pollInterval ∧
    (s.adoptTable a n).walker.directory = s.walker.directory := by
  by_cases empty : n = 0
  · rw [empty, adoptTable_empty, enterRunning_walker]
    exact ⟨rfl, rfl⟩
  · rw [adoptTable_counted s a n empty]
    exact ⟨rfl, rfl⟩

/-- The adoption of a table leaves what the status writer has loaded, and a refresh in progress. -/
theorem adoptTable_status : (s.adoptTable a n).ctrl.statusAddress = s.ctrl.statusAddress ∧
    (s.adoptTable a n).ctrl.statusInterval = s.ctrl.statusInterval ∧
    (s.adoptTable a n).ctrl.statusTimer = s.ctrl.statusTimer ∧
    ∀ r, s.ctrl.refresh = some r → (s.adoptTable a n).ctrl.refresh = some r := by
  by_cases empty : n = 0
  · rw [empty, adoptTable_empty, enterRunning_ctrl]
    exact ⟨refreshRequested_statusAddress _, refreshRequested_statusInterval _, refreshRequested_statusTimer _,
      fun r going => refreshRequested_refresh going⟩
  · rw [adoptTable_counted s a n empty]
    exact ⟨rfl, rfl, rfl, fun _ going => going⟩

end

/-! ### The answer and the fault of the read -/

section

variable {s : State}

theorem controlOkay_directory (reading : s.ctrl.starting = some .directory) (ws : List Word) :
    s.controlOkay ws = s.directoryAnswered ws := by
  simp only [State.controlOkay, reading]

theorem controlFault_directory (reading : s.ctrl.starting = some .directory) :
    s.controlFault = s.enterFaulted .readFault := by
  simp only [State.controlFault, reading]

theorem directoryAnswered_failed {ws : List Word} {r : FaultReason} (failed : directoryFault ws = some r) :
    s.directoryAnswered ws = s.enterFaulted r := by
  simp only [State.directoryAnswered, failed]

theorem directoryAnswered_passed {ws : List Word} (passed : directoryFault ws = none) : s.directoryAnswered ws =
    (s.loadDirectory (parseDirectory ws)).adoptTable (parseDirectory ws).tideAddress
      (parseDirectory ws).tideCount := by
  simp only [State.directoryAnswered, passed]

end

/-- Settles O53: the first check that fails, the load with no table and with one, and the fault of the read. -/
theorem directoryReadAnswered : Obligations.DirectoryReadAnswered := by
  refine ⟨?_, fun s k c failing reading => ?_⟩
  · rintro s data ws d passes done reading rfl signature check windows roots range
    rw [← windowsOk_iff] at windows
    rw [← rootsOk_iff] at roots
    rw [← rangesOk_iff] at range
    have taken := exec_okay_of_completes done
    have freed := freed_frame .controlPort s
    set u := s.freed .controlPort
    set d := parseDirectory ws
    rw [State.requesterOkay, controlOkay_directory (s := u) reading] at taken
    refine ⟨fun r first => ?_, fun h1 h2 h3 h4 h5 => ?_⟩
    · rw [directoryAnswered_failed (directoryFault_first signature check windows roots range first)] at taken
      have faulted := enterFaulted_frame u r
      refine ⟨_, taken, ?_, ?_, ?_, ?_, faulted.port (by decide), freed.andThen faulted (by decide)⟩
      all_goals rw [enterFaulted_ctrl]
      · exact refreshRequested_engine _
      · exact refreshRequested_faultReason _
      · exact refreshRequested_starting _
      · exact refreshRequested_raised _
    · rw [directoryAnswered_passed (directoryFault_none signature check windows roots range h1 h2 h3 h4 h5)] at taken
      have loaded := loadDirectory_frame u d
      have ctrl := loadDirectory_ctrl u d
      have walker := loadDirectory_walker u d
      have tide := loadDirectory_tide u d
      have lane := loadDirectory_lane u d
      have raised := loadDirectory_raised u d
      have now := loadDirectory_now u d
      set v := u.loadDirectory d
      have adopted := adoptTable_frame v d.tideAddress d.tideCount
      obtain ⟨interval, directory⟩ := adoptTable_walker v d.tideAddress d.tideCount
      obtain ⟨address, period, timer, going⟩ := adoptTable_status v d.tideAddress d.tideCount
      refine ⟨_, taken, (adopted.port (by decide)).trans (loadDirectory_port u d), interval.trans ?_,
        directory.trans ?_, (adopted.drift (by decide)).trans (loadDirectory_drift u d), address.trans ?_,
        period.trans ?_, timer.trans ?_, fun idle => going _ ?_, fun empty => ?_, fun counted => ?_,
        (freed.andThen loaded (fun _ m => m)).andThen adopted (by decide)⟩
      · rw [walker]
      · rw [walker]
        rfl
      · rw [ctrl, refreshRequested_statusAddress]
      · rw [ctrl, refreshRequested_statusInterval]
      · rw [ctrl, refreshRequested_statusTimer]
        rfl
      · rw [ctrl]
        exact refreshRequested_begins rfl idle
      · have running := enterRunning_frame (v.changeTable none)
        rw [empty, adoptTable_empty]
        refine ⟨?_, ?_, ?_, (running.tide (by decide)).trans ?_, fun n => ?_, ?_⟩
        · rw [enterRunning_ctrl, refreshRequested_engine]
        · rw [enterRunning_ctrl, refreshRequested_starting]
        · rw [enterRunning_ctrl, refreshRequested_raised, changeTable_ctrl, raised]
          rfl
        · unfold State.changeTable
          rw [tide]
          rfl
        · rw [enterRunning_lane, changeTable_lane, lane]
          rfl
        · rw [enterRunning_walker]
          unfold State.pollExpiry
          rw [changeTable_walker, changeTable_now, walker, now]
          rfl
      · rw [adoptTable_counted _ _ _ counted]
        refine ⟨loadDirectory_engine u d, loadDirectory_starting u d, raised, ?_, ?_⟩
        · unfold State.beginScan
          rw [tide]
          rfl
        · show v.walker.lanes = s.walker.lanes
          rw [walker]
          rfl
  · obtain ⟨u, x, a, taken, fault, grant, slot, ctrl, frame⟩ := requesterFault_of_faults failing
    have engaged : u.ctrl.starting = some .directory := by rw [ctrl]; exact reading
    rw [State.requesterFault, controlFault_directory engaged] at taken
    have faulted := enterFaulted_frame u .readFault
    have port := faulted.port (by decide)
    refine ⟨_, taken, ?_, ?_, ?_, ?_, ?_, ?_, ⟨x, a, ?_⟩, frame.andThen faulted (by decide)⟩
    · rw [enterFaulted_ctrl, refreshRequested_engine]
    · rw [enterFaulted_ctrl, refreshRequested_faultReason]
    · rw [enterFaulted_ctrl, refreshRequested_starting]
    · rw [enterFaulted_ctrl, refreshRequested_raised, ctrl, List.append_assoc]
      rfl
    · rw [port, grant]
    · unfold State.slot
      rw [port]
      exact slot
    · rw [port, fault]

end Sys2Proof.Machine
end
-- ==== Proofs of the family "tide tables": the reads of the Tide Unit (O56) ====
section
/-! SUPPORT. What the Tide Unit makes of an answer and of a fault: the outcomes of a probe, of a segment read and of a scanned
segment, one equation for each; the statement is read off these. -/

namespace Sys2Proof.Machine

/-! ### The end of a lookup (R66, R81, R82, R112) -/

section

variable {s : State} {e : Evaluator} {x : Sample} {time : Nat} {c : Candidate}

section

variable (he : s.corr.evaluator = some e) (hp : e.phase = .awaitingTide x time c)
include he hp

theorem answerTide_term (v : Int) : s.answerTide (some v) =
    s.setEvaluator (some { e with phase := .crediting x time (c.finish v) }) := by
  simp only [State.answerTide, he, hp]

theorem answerTide_gap : s.answerTide none =
    (s.setEvaluator (some { e with phase := .delivering x time .rejTide })).raise .tide := by
  simp only [State.answerTide, he, hp]

end

theorem answerTide_tide (v : Option Int) : (s.answerTide v).tide = s.tide := (answerTide_frame s v).tide (by decide)

/-- With no finished scan that waits, a lookup's end is its answer. -/
theorem endLookup_uncommitted (waiting : ∀ p, s.tide.pendingTable = some p → p.nextIndex ≠ p.count)
    (v : Option Int) : s.endLookup v = (s.answerTide v).setLookup none := by
  refine commitIfReady_none fun p pending => waiting p ?_
  rw [← answerTide_tide v]
  exact pending

section

variable {p : PendingTable} {o : ScanOwner} (pending : s.tide.pendingTable = some p)
  (owner : s.tide.scanOwner = some o)
include pending owner

theorem commitIfReady_ready (free : s.tide.lookup = none) (ready : p.nextIndex = p.count) :
    s.commitIfReady = s.commitTable p o := by
  simp only [State.commitIfReady, free, pending, owner, ready, if_true]

/-- A finished scan that waited for the lookup is committed at its end (R112). -/
theorem endLookup_commits (ready : p.nextIndex = p.count) (v : Option Int) :
    s.endLookup v = ((s.answerTide v).setLookup none).commitTable p o := by
  rw [← answerTide_tide v] at pending owner
  exact commitIfReady_ready (s := (s.answerTide v).setLookup none) pending owner rfl ready

end

/-- A finished scan waits for a lookup in flight (R112). -/
theorem commitIfReady_lookup (busy : s.tide.lookup ≠ none) : s.commitIfReady = s := by
  obtain ⟨k, hk⟩ := Option.ne_none_iff_exists'.mp busy
  simp only [State.commitIfReady, hk]

end

/-! ### Probes and segment reads (R104, R105) -/

section

variable {s : State} {k : Lookup} {g : Segment}

section

variable (opened : k.lo < k.hi)
include opened

theorem probeAnswered_before (before : k.time < g.start) : s.probeAnswered k g =
    s.setLookup (some (searching k k.lo (probeIndex k - 1))) := by
  have inside : ¬ probeIndex k - 1 < k.lo := by
    unfold probeIndex
    omega
  simp only [State.probeAnswered, before, inside, if_true, if_false]

end

section

variable (after : g.start + g.span ≤ k.time)
include after

theorem probeAnswered_after (left : probeIndex k < k.hi) : s.probeAnswered k g =
    s.setLookup (some (searching k (probeIndex k + 1) k.hi)) := by
  have past : ¬ k.time < g.start := by omega
  have inside : ¬ k.hi < probeIndex k + 1 := by omega
  simp only [State.probeAnswered, past, after, inside, if_true, if_false]

theorem probeAnswered_last (last : probeIndex k = k.hi) : s.probeAnswered k g = s.endLookup none := by
  have past : ¬ k.time < g.start := by omega
  have passed : k.hi < probeIndex k + 1 := by omega
  simp only [State.probeAnswered, past, after, passed, if_true, if_false]

end

theorem holds_iff {t : Nat} : g.holds t = true ↔ g.start ≤ t ∧ t < g.start + g.span := decide_eq_true_iff

theorem probeAnswered_holds (held : g.holds k.time = true) : s.probeAnswered k g =
    s.setLookup (some { k with lo := probeIndex k, hi := probeIndex k, phase := .reading }) := by
  obtain ⟨first, last⟩ := holds_iff.mp held
  have past : ¬ k.time < g.start := by omega
  have within : ¬ g.start + g.span ≤ k.time := by omega
  simp only [State.probeAnswered, past, within, searching, if_true, if_false]

theorem segmentAnswered_gap (missed : k.time < g.start ∨ g.start + g.span ≤ k.time) :
    s.segmentAnswered k g = s.endLookup none := by
  have outside : ¬ g.holds k.time = true := fun held => by
    obtain ⟨first, last⟩ := holds_iff.mp held
    omega
  exact if_neg outside

/-- The cache after a segment read: the segment joins it if its table is still the current one (R105). -/
def cacheAfterRead (s : State) (k : Lookup) (g : Segment) : List CacheEntry :=
  if s.tide.tableNo = k.tableNo then insertCache ⟨k.lo, g⟩ s.tide.cache else s.tide.cache

theorem segmentAnswered_term (held : g.holds k.time = true) : s.segmentAnswered k g =
    (s.setCache (cacheAfterRead s k g)).endLookup (some (tideTermOf g k.time)) := by
  unfold State.segmentAnswered cacheAfterRead
  rw [if_pos held]
  split <;> rfl

/-- A segment read ends its lookup, with a cache and an answer (R105). -/
theorem segmentAnswered_ends (s : State) (k : Lookup) (g : Segment) :
    ∃ cache answer, s.segmentAnswered k g = (s.setCache cache).endLookup answer := by
  by_cases held : g.holds k.time = true
  · exact ⟨_, _, segmentAnswered_term held⟩
  · exact ⟨s.tide.cache, none, if_neg held⟩

end

/-! ### The scan (R110 to R112, R114) -/

section

variable {p : PendingTable} {g : Segment}

theorem segmentFault_first {r : Reason}
    (first : (r = .tableOrder ∧ p.nextIndex ≠ 0 ∧ g.start ≠ p.expectedStart) ∨
      (p.nextIndex = 0 ∨ g.start = p.expectedStart) ∧
        ((r = .tableSpan ∧ (g.span < 60000 ∨ 86400000 < g.span)) ∨
          (60000 ≤ g.span ∧ g.span ≤ 86400000) ∧ r = .range ∧ 2 ^ 64 - 1 < g.start + g.span)) :
    segmentFault p g = some r := by
  unfold segmentFault
  rcases first with ⟨rfl, order⟩ | ⟨order, ⟨rfl, span⟩ | ⟨⟨low, high⟩, rfl, range⟩⟩
  · exact if_pos order
  · rw [if_neg (by tauto), if_pos span]
  · rw [if_neg (by tauto), if_neg (by omega), if_pos range]

theorem segmentFault_none (order : p.nextIndex = 0 ∨ g.start = p.expectedStart) (low : 60000 ≤ g.span)
    (high : g.span ≤ 86400000) (range : g.start + g.span ≤ 2 ^ 64 - 1) : segmentFault p g = none := by
  unfold segmentFault
  rw [if_neg (by tauto), if_neg (by omega), if_neg (by omega)]

end

section

variable {s : State}

theorem scanAnswered_failed {p : PendingTable} {g : Segment} {r : Reason}
    (pending : s.tide.pendingTable = some p) (failed : segmentFault p g = some r) :
    s.scanAnswered g = s.failScan r := by
  simp only [State.scanAnswered, pending, failed]

theorem scanAnswered_passed {p : PendingTable} {g : Segment} (pending : s.tide.pendingTable = some p)
    (passed : segmentFault p g = none) : s.scanAnswered g =
      ({ s with tide := { s.tide with pendingTable := some (segmentPassed p g) } } : State).commitIfReady := by
  simp only [State.scanAnswered, pending, passed]

theorem failScan_order (owner : s.tide.scanOwner = some .order) (r : Reason) :
    s.failScan r = s.endScan.orderRefused r := by
  simp only [State.failScan, owner]

/-- A start-up whose scan fails leaves no table and a FAULTED engine (R114, R187). -/
theorem failScan_starting (owner : s.tide.scanOwner = some .starting) (r : Reason) :
    (s.failScan r).tide = { s.tide with
      pendingTable := none, scanOwner := none, current := none, tableNo := s.tide.tableNo + 1, cache := [] } ∧
    (s.failScan r).ctrl.engine = .faulted ∧ (s.failScan r).ctrl.faultReason = .tideTable ∧
    (s.failScan r).ctrl.starting = none ∧ (s.failScan r).ctrl.raised = s.ctrl.raised ++ [.engine] ∧
    unchangedBut [.tide, .ctrl] s (s.failScan r) := by
  have failed : s.failScan r = (s.endScan.changeTable none).enterFaulted .tideTable := by
    simp only [State.failScan, owner]
  have faulted := enterFaulted_frame (s.endScan.changeTable none) .tideTable
  rw [failed, enterFaulted_ctrl]
  exact ⟨faulted.tide (by decide), refreshRequested_engine _, refreshRequested_faultReason _,
    refreshRequested_starting _, refreshRequested_raised _,
    ((endScan_frame s).andThen (changeTable_frame _ _) (fun _ m => m)).andThen faulted (by decide)⟩

theorem commitTable_tide (p : PendingTable) (o : ScanOwner) : (s.commitTable p o).tide = { s.tide with
    pendingTable := none, scanOwner := none, current := some (scannedTable p), tableNo := s.tide.tableNo + 1,
    cache := [] } := by
  cases o with
  | order => rfl
  | starting => exact (enterRunning_frame _).tide (by decide)

/-- A commit at STARTING enters RUNNING (R114, R186). -/
theorem commitTable_starting (p : PendingTable) : (s.commitTable p .starting).ctrl.engine = .running ∧
    (s.commitTable p .starting).ctrl.starting = none ∧
    (∀ n, (s.commitTable p .starting).lane n = { s.lane n with flag := true }) ∧
    unchangedBut [.tide, .walker, .ctrl] s (s.commitTable p .starting) := by
  set v := (s.changeTable (some (scannedTable p))).endScan
  have committed : s.commitTable p .starting = v.enterRunning := rfl
  rw [committed, enterRunning_ctrl]
  refine ⟨refreshRequested_engine _, refreshRequested_starting _, enterRunning_lane v, ?_⟩
  exact ((changeTable_frame s _).andThen (endScan_frame _) (fun _ m => m)).andThen (enterRunning_frame v) (by decide)

end

/-- The segment read for which a finished scan has waited commits the table, whatever its answer (R112). -/
theorem segmentAnswered_commits {s : State} {p : PendingTable} (pending : s.tide.pendingTable = some p)
    (owner : s.tide.scanOwner = some .order) (ready : p.nextIndex = p.count) (k : Lookup) (g : Segment) :
    (s.segmentAnswered k g).tide = { s.tide with
      lookup := none, pendingTable := none, scanOwner := none, current := some (scannedTable p),
      tableNo := s.tide.tableNo + 1, cache := [] } ∧
    (s.segmentAnswered k g).order =
      { s.order with status := some .done, reason := .none, stage := .answerWord } := by
  obtain ⟨cache, answer, ended⟩ := segmentAnswered_ends s k g
  rw [ended, endLookup_commits (s := s.setCache cache) pending owner ready]
  have answered := answerTide_frame (s.setCache cache) answer
  set w := (s.setCache cache).answerTide answer
  have tide : (w.setLookup none).tide = { s.tide with cache := cache, lookup := none } :=
    congrArg (fun t : TideUnit => { t with lookup := none }) (answered.tide (by decide))
  have order : w.order = s.order := answered.order (by decide)
  refine ⟨?_, ?_⟩
  · rw [commitTable_tide, tide]
  · rw [← order]
    rfl

/-! ### The answer and the fault of a read, by what it was for (R107) -/

section

variable {s : State}

theorem tideOkay_scan (scanning : s.tide.slot = some .scan) (ws : List Word) :
    s.tideOkay ws = s.freeTideSlot.scanAnswered (parseSegment ws) := by
  simp only [State.tideOkay, scanning]

theorem tideOkay_probe {k : Lookup} (looking : s.tide.slot = some .lookup) (hk : s.tide.lookup = some k)
    (probing : k.phase = .probing) (ws : List Word) :
    s.tideOkay ws = s.freeTideSlot.probeAnswered k (parseSegment ws) := by
  simp only [State.tideOkay, looking, hk, probing]

theorem tideOkay_read {k : Lookup} (looking : s.tide.slot = some .lookup) (hk : s.tide.lookup = some k)
    (reading : k.phase = .reading) (ws : List Word) :
    s.tideOkay ws = s.freeTideSlot.segmentAnswered k (parseSegment ws) := by
  simp only [State.tideOkay, looking, hk, reading]

theorem tideFault_scan (scanning : s.tide.slot = some .scan) (k : FaultKind) :
    s.tideFault k = s.freeTideSlot.failScan (reasonOfFault k) := by
  simp only [State.tideFault, scanning]

theorem tideFault_lookup (looking : s.tide.slot = some .lookup) (k : FaultKind) :
    s.tideFault k = s.freeTideSlot.endLookup none := by
  simp only [State.tideFault, looking]

end

section

variable {s : State} {k : FaultKind} {i : Instr} (failing : faults .tideUnit k i s)
include failing

/-- A fault of a scan read refuses the order, or ends STARTING (R111, R114). -/
theorem scanReadFaulted (scanning : s.tide.slot = some .scan) :
    (s.tide.scanOwner = some .order → ∃ t, exec i s = .next t ∧
      t.tide = { s.tide with slot := none, pendingTable := none, scanOwner := none } ∧
      t.order = { s.order with
        status := some .refused, reason := if k = .window then .window else .memory, stage := .answerWord } ∧
      t.ctrl = { s.ctrl with raised := s.ctrl.raised ++ [.memfault] } ∧
      (∃ d a, t.port.lastFault = some ⟨.tideUnit, d, a, k⟩) ∧ unchangedBut [.port, .tide, .order, .ctrl] s t) ∧
    (s.tide.scanOwner = some .starting → ∃ t, exec i s = .next t ∧
      t.tide = { s.tide with slot := none, pendingTable := none, scanOwner := none, current := none,
                             tableNo := s.tide.tableNo + 1, cache := [] } ∧
      t.ctrl.engine = .faulted ∧ t.ctrl.faultReason = .tideTable ∧ t.ctrl.starting = none ∧
      t.ctrl.raised = s.ctrl.raised ++ [.memfault, .engine] ∧
      (∃ d a, t.port.lastFault = some ⟨.tideUnit, d, a, k⟩) ∧ unchangedBut [.port, .tide, .ctrl] s t) := by
  obtain ⟨u, d, a, taken, fault, -, -, ctrl, frame⟩ := requesterFault_of_faults failing
  have tide := frame.tide (by decide)
  rw [State.requesterFault, tideFault_scan (by rw [tide]; exact scanning), reasonOfFault_eq] at taken
  set r : Reason := if k = .window then .window else .memory
  refine ⟨fun owner => ?_, fun owner => ?_⟩
  · have refused := ((freeTideSlot_frame u).andThen (endScan_frame _) (fun _ m => m)).andThen (orderRefused_frame _ r)
      (cs := [.tide, .order]) (by decide)
    rw [failScan_order (s := u.freeTideSlot) (by rw [← tide] at owner; exact owner)] at taken
    refine ⟨_, taken, ?_, ?_, ctrl, ⟨d, a, fault⟩, frame.andThen refused (by decide)⟩
    · rw [← tide]
      rfl
    · rw [← frame.order (by decide)]
      rfl
  · obtain ⟨table, engine, reason, starting, raised, failed⟩ :=
      failScan_starting (s := u.freeTideSlot) (by rw [← tide] at owner; exact owner) r
    have ended := (freeTideSlot_frame u).andThen failed (cs := [.tide, .ctrl]) (by decide)
    refine ⟨_, taken, table.trans ?_, engine, reason, starting, raised.trans ?_, ⟨d, a, ?_⟩,
      frame.andThen ended (by decide)⟩
    · rw [← tide]
      rfl
    · rw [freeTideSlot_ctrl, ctrl, List.append_assoc]
      rfl
    · rw [ended.port (by decide), fault]

/-- A fault of a lookup's read is a gap (R82, R106). -/
theorem lookupReadFaulted {e : Evaluator} {x : Sample} {time : Nat} {c : Candidate}
    (looking : s.tide.slot = some .lookup) (he : s.corr.evaluator = some e) (hp : e.phase = .awaitingTide x time c)
    (waiting : ∀ p, s.tide.pendingTable = some p → p.nextIndex ≠ p.count) : ∃ t, exec i s = .next t ∧
      t.corr = { s.corr with evaluator := some { e with phase := .delivering x time .rejTide } } ∧
      t.tide = { s.tide with slot := none, lookup := none } ∧
      t.ctrl = { s.ctrl with raised := s.ctrl.raised ++ [.memfault, .tide] } ∧
      (∃ d a, t.port.lastFault = some ⟨.tideUnit, d, a, k⟩) ∧ unchangedBut [.port, .corr, .tide, .ctrl] s t := by
  obtain ⟨u, d, a, taken, fault, -, -, ctrl, frame⟩ := requesterFault_of_faults failing
  have tide := frame.tide (by decide)
  have corr := frame.corr (by decide)
  rw [State.requesterFault, tideFault_lookup (by rw [tide]; exact looking),
    endLookup_uncommitted (s := u.freeTideSlot) (by rw [← tide] at waiting; exact waiting),
    answerTide_gap (s := u.freeTideSlot) (by rw [← corr] at he; exact he) hp] at taken
  refine ⟨_, taken, ?_, ?_, ?_, ⟨d, a, fault⟩, ?_⟩
  · rw [← corr]
    rfl
  · rw [← tide]
    rfl
  · show { u.ctrl with raised := u.ctrl.raised ++ [Event.tide] } = _
    rw [ctrl, List.append_assoc]
    rfl
  · exact (((frame.andThen (freeTideSlot_frame _) (fun _ m => m)).andThen (setEvaluator_frame _ _)
      (fun _ m => m)).andThen (raise_frame _ _) (fun _ m => m)).andThen (setLookup_frame _ _) (by decide)

end

/-- Settles O56: a fault of a scan read, a fault of a lookup's read, and an answer by what the read was for. -/
theorem tideReadsAnswered : Obligations.TideReadsAnswered := by
  refine ⟨fun s k c failing scanning => scanReadFaulted failing scanning,
    fun s k c e x time y failing looking he hp waiting => lookupReadFaulted failing looking he hp waiting, ?_⟩
  rintro s u data ws g done rfl rfl
  have taken := exec_okay_of_completes done
  have freed := (freed_frame .tideUnit s).andThen (freeTideSlot_frame _) (cs := [.port, .tide]) (by decide)
  have slotFreed : ({ s.freed .tideUnit with tide := { s.tide with slot := none } } : State) =
      (s.freed .tideUnit).freeTideSlot := rfl
  rw [slotFreed]
  set v := (s.freed .tideUnit).freeTideSlot
  set g := parseSegment ws
  refine ⟨?_, ?_, fun p r scanning pending => ⟨fun first => ?_, fun order low high range q hq => ?_⟩⟩
  · rintro k e x time c _ mid looking hk he hp waiting rfl
    have gap : v.endLookup none =
        ((v.setEvaluator (some { e with phase := .delivering x time .rejTide })).raise .tide).setLookup none := by
      rw [endLookup_uncommitted (s := v) waiting, answerTide_gap (s := v) he hp]
    refine ⟨fun probing opened hmid => ?_, fun reading => ?_⟩
    · subst hmid
      have probed := tideOkay_probe (s := s.freed .tideUnit) looking hk probing ws
      rw [State.requesterOkay, probed] at taken
      refine ⟨fun before => ?_, fun after left => ?_, fun after last => ?_, fun first last => ?_⟩
      · rw [taken, probeAnswered_before opened before]
        rfl
      · rw [taken, probeAnswered_after after left]
        rfl
      · rw [taken, probeAnswered_last after last, gap]
      · rw [taken, probeAnswered_holds (holds_iff.mpr ⟨first, last⟩)]
        rfl
    · have read := tideOkay_read (s := s.freed .tideUnit) looking hk reading ws
      rw [State.requesterOkay, read] at taken
      refine ⟨fun first last => ?_, fun missed => ?_⟩
      · have held : g.holds k.time = true := holds_iff.mpr ⟨first, last⟩
        rw [segmentAnswered_term held, endLookup_uncommitted (s := v.setCache _) waiting,
          answerTide_term (s := v.setCache _) he hp] at taken
        refine ⟨_, taken, rfl, rfl, fun other => ?_, fun same => ⟨_, ?_, rfl⟩, rfl, ?_⟩
        · exact if_neg other
        · exact if_pos same
        · exact ((freed.andThen (setCache_frame _ _) (fun _ m => m)).andThen (setEvaluator_frame _ _)
            (fun _ m => m)).andThen (setLookup_frame _ _) (by decide)
      · rw [taken, segmentAnswered_gap missed, gap]
  · intro k p looking hk reading pending ready owner
    have read := tideOkay_read (s := s.freed .tideUnit) looking hk reading ws
    rw [State.requesterOkay, read] at taken
    exact ⟨_, taken, segmentAnswered_commits (s := v) pending owner ready k g⟩
  · rw [State.requesterOkay, tideOkay_scan (s := s.freed .tideUnit) scanning,
      scanAnswered_failed (s := v) pending (segmentFault_first first)] at taken
    refine ⟨fun owner => ?_, fun owner => ?_⟩
    · rw [taken, failScan_order (s := v) owner]
      rfl
    · obtain ⟨table, engine, reason, starting, raised, failed⟩ := failScan_starting (s := v) owner r
      exact ⟨_, taken, table, engine, reason, starting, raised, freed.andThen failed (by decide)⟩
  · rw [State.requesterOkay, tideOkay_scan (s := s.freed .tideUnit) scanning,
      scanAnswered_passed (s := v) pending (segmentFault_none order low high range)] at taken
    obtain rfl : q = segmentPassed p g := hq
    set w : State := { v with tide := { v.tide with pendingTable := some (segmentPassed p g) } }
    have passed := freed.andThen (frame_tide v { v.tide with pendingTable := some (segmentPassed p g) })
      (cs := [.port, .tide]) (by decide)
    refine ⟨fun goes => ?_, fun last free owned => ?_⟩
    · have stays : w.commitIfReady = w := by
        rcases goes with more | busy
        · refine commitIfReady_none ?_
          rintro _ ⟨⟩
          exact more
        · exact commitIfReady_lookup (s := w) busy
      rw [taken, stays]
    · obtain ⟨o, owner⟩ := Option.ne_none_iff_exists'.mp owned
      rw [commitIfReady_ready (s := w) rfl owner free last] at taken
      refine ⟨_, taken, commitTable_tide _ o, fun ordered => ?_, fun started => ?_⟩
      · obtain rfl : o = .order := Option.some.inj (owner.symm.trans ordered)
        exact ⟨rfl, ((passed.andThen (changeTable_frame _ _) (fun _ m => m)).andThen (endScan_frame _)
          (fun _ m => m)).andThen (orderDone_frame _) (by decide)⟩
      · obtain rfl : o = .starting := Option.some.inj (owner.symm.trans started)
        obtain ⟨engine, starting, flags, committed⟩ := commitTable_starting (s := w) (segmentPassed p g)
        exact ⟨engine, starting, flags, passed.andThen committed (by decide)⟩

end Sys2Proof.Machine
end

-- ==== Proofs of the family "sensor links": the frame queues stay bounded (O19) ====
section
/-! O19: a frame queue grows at `offerFrame` alone, and there below its bound (R132). One lemma for each operation of the
Link Receivers; every other command leaves the receivers, by its frame. -/

namespace Sys2Proof.Machine

/-! ### What leaves a queue as it is (R119 to R121, R128) -/

theorem absorbBits_queue {u l : LinkReceiver} {bs : List Bool} (absorbed : absorbBits u bs = some l) :
    l.queue = u.queue := by
  unfold absorbBits at absorbed
  split at absorbed <;> split at absorbed <;> cases absorbed <;> rfl

theorem sequenced_queue (q : Byte) (l : LinkReceiver) : (sequenced q l).queue = l.queue := by
  unfold sequenced
  split <;> rfl

theorem framesBounded_of_links {s t : State} (hb : framesBounded s) (same : t.links = s.links) : framesBounded t := by
  intro i
  unfold State.link
  rw [same]
  exact hb i

/-- Right after a reset every queue is empty (R136). -/
theorem framesBounded_of_reset {t : State} (fresh : t.links = Vector.replicate 4 {}) : framesBounded t := by
  intro i
  simp [State.link, fresh]

section

variable {s : State} (hb : framesBounded s)

include hb

theorem updLink_framesBounded (h : Head) (f : LinkReceiver → LinkReceiver)
    (hf : (f (s.link h)).queue.length ≤ 8) : framesBounded (s.updLink h f) := by
  intro i
  rw [updLink_link_eq]
  split
  · exact hf
  · exact hb i

/-! ### The link judge (R129 to R131) -/

theorem linkDown_framesBounded (h : Head) (presented : Bool) : framesBounded (s.linkDown h presented) := by
  have downed := updLink_framesBounded hb h (fun l =>
    { l with judge := .down, goodRun := 0, badRun := 0, silenceTimer := none, expected := none }) (hb h)
  unfold State.linkDown
  dsimp only
  split
  · exact downed
  · exact downed

theorem linkUp_framesBounded (h : Head) : framesBounded (s.linkUp h) :=
  updLink_framesBounded hb h (fun l =>
    { l with judge := .up, goodRun := 0, badRun := 0, silenceTimer := some (s.now + l.silence) }) (hb h)

theorem badFrame_framesBounded (h : Head) : framesBounded (s.badFrame h) := by
  unfold State.badFrame
  split
  · exact updLink_framesBounded hb h _ (hb h)
  · split
    · exact linkDown_framesBounded hb h true
    · exact updLink_framesBounded hb h _ (hb h)

theorem judgeGoodFrame_framesBounded (h : Head) : framesBounded (s.judgeGoodFrame h) := by
  unfold State.judgeGoodFrame
  split
  · split
    · exact linkUp_framesBounded hb h
    · exact updLink_framesBounded hb h _ (hb h)
  · exact updLink_framesBounded hb h _ (hb h)

theorem frameError_framesBounded (h : Head) (count : Counters → Counters) : framesBounded (s.frameError h count) :=
  badFrame_framesBounded (updLink_framesBounded hb h _ (hb h)) h

/-! ### Good frames (R125, R132) -/

/-- A frame joins a queue of fewer than 8 frames alone (R132). -/
theorem offerFrame_framesBounded (h : Head) (f : Frame) : framesBounded (s.offerFrame h f) := by
  unfold State.offerFrame
  split
  · rename_i room
    refine updLink_framesBounded hb h _ ?_
    rw [List.length_append, List.length_singleton]
    exact room
  · exact updLink_framesBounded hb h
      (fun l => { l with counters := { l.counters with overflows := l.counters.overflows + 1 } }) (hb h)

theorem goodFrame_framesBounded (h : Head) (k : FrameKind) (q : Byte) (p : List Byte) :
    framesBounded (s.goodFrame h k q p) := by
  have judged := judgeGoodFrame_framesBounded (updLink_framesBounded hb h (fun l =>
    { l with counters := { l.counters with good := l.counters.good + 1 } }) (hb h)) h
  unfold State.goodFrame
  dsimp only
  split
  · refine offerFrame_framesBounded (updLink_framesBounded judged h _ ?_) h _
    rw [sequenced_queue]
    exact judged h
  · exact updLink_framesBounded judged h _ (judged h)

/-! ### Headers and frames (R122, R123) -/

theorem checkHeader_framesBounded (h : Head) (bytes : List Byte) : framesBounded (s.checkHeader h bytes) := by
  unfold State.checkHeader
  split
  · exact frameError_framesBounded hb h _
  · exact updLink_framesBounded hb h _ (hb h)

theorem checkFrame_framesBounded (h : Head) (bytes : List Byte) : framesBounded (s.checkFrame h bytes) := by
  unfold State.checkFrame
  dsimp only
  split
  · split
    · exact goodFrame_framesBounded (updLink_framesBounded hb h huntingLink (hb h)) h _ _ _
    · exact frameError_framesBounded hb h _
  · exact frameError_framesBounded hb h _

theorem collect_framesBounded (h : Head) (cells : List TrackCell) (complete : List Byte → State → State)
    (kept : ∀ bytes t, framesBounded t → framesBounded (complete bytes t)) :
    framesBounded (s.collect h cells complete) := by
  unfold State.collect
  dsimp only
  split
  · exact updLink_framesBounded hb h _ (hb h)
  · split
    · exact kept _ _ (updLink_framesBounded hb h (fun l => { tracked cells l with bits := [] }) (hb h))
    · exact hb

/-! ### The arbiter and the two orders of a link (R55, R134, R135) -/

theorem removeFrame_framesBounded (h : Head) : framesBounded (s.removeFrame h) := by
  refine updLink_framesBounded hb h (fun l => { l with queue := l.queue.tail }) ?_
  rw [List.length_tail]
  exact (Nat.sub_le _ 1).trans (hb h)

theorem setLinkSettings_framesBounded (h : Head) (x : HeadSettings) : framesBounded (s.setLinkSettings h x) := by
  unfold State.setLinkSettings
  dsimp only
  split
  · exact updLink_framesBounded hb h _ (hb h)
  · refine updLink_framesBounded ?_ h _ (Nat.zero_le _)
    split
    · exact linkDown_framesBounded hb h true
    · exact hb

/-! ### Every command -/

/-- A command that touches the Link Receivers keeps the bound; the others leave the queues, by their frame. -/
theorem exec_framesBounded (c : Instr) : answersOnly framesBounded (exec c s) := by
  have idle : answersOnly framesBounded (.next s) := answersOnly_next hb
  have kept {h : Head} {f : LinkReceiver → LinkReceiver} (same : (f (s.link h)).queue = (s.link h).queue) :
      answersOnly framesBounded (.next (s.updLink h f)) :=
    answersOnly_next (updLink_framesBounded hb h f (by rw [same]; exact hb h))
  by_cases touches : Block.links ∈ mayChange c
  · cases c with
    | powerOnReset => exact answersOnly_next (framesBounded_of_reset rfl)
    | reset w => exact answersOnly_next (framesBounded_of_reset rfl)
    | startMark h cells =>
      simp only [exec, execStartMark]
      split
      · split
        · exact kept rfl
        · exact kept rfl
        · exact idle
      · exact idle
    | trackerLock h intervals =>
      simp only [exec, execTrackerLock]
      split
      · split
        · exact kept rfl
        · exact kept rfl
        · exact idle
      · exact idle
    | missedCell h cells cell =>
      simp only [exec, execMissedCell]
      split
      · split
        · exact idle
        · rename_i absorbed
          have queue := absorbBits_queue absorbed
          exact kept queue
      · exact idle
    | headerComplete h cells =>
      simp only [exec, execHeaderComplete]
      split
      · exact answersOnly_next (collect_framesBounded hb h cells _ fun bytes _ ht => checkHeader_framesBounded ht h bytes)
      · exact idle
    | frameEnd h cells =>
      simp only [exec, execFrameEnd]
      split
      · exact answersOnly_next (collect_framesBounded hb h cells _ fun bytes _ ht => checkFrame_framesBounded ht h bytes)
      · exact idle
    | timingLoss h cell =>
      simp only [exec, execTimingLoss]
      split
      · split
        · exact idle
        · exact answersOnly_next (badFrame_framesBounded (updLink_framesBounded hb h lossLink (hb h)) h)
      · exact idle
    | silenceExpiry h =>
      simp only [exec, execSilenceExpiry]
      split
      · exact answersOnly_next (linkDown_framesBounded hb h true)
      · exact idle
    | headResetLinkPart =>
      simp only [exec, execHeadResetLinkPart]
      split
      · refine answersOnly_next (framesBounded_of_links ?_ ((resetPart_frame _ _ _ _).links (by decide)))
        refine updLink_framesBounded ?_ _ _ (Nat.zero_le _)
        split
        · exact linkDown_framesBounded hb _ false
        · exact hb
      · exact idle
    | frameChoice =>
      simp only [exec, execFrameChoice]
      split
      · exact idle
      · split
        · exact idle
        · split
          · exact answersOnly_next (framesBounded_of_links (removeFrame_framesBounded hb _)
              ((takeIdent_frame _ _ _).links (by decide)))
          · exact answersOnly_next (framesBounded_of_links (removeFrame_framesBounded hb _)
              ((beginFrame_frame _ _ _).links (by decide)))
    | setHead =>
      simp only [exec, execSetHead]
      split
      · split
        · rw [setHead_eq]
          exact answersOnly_next (setLinkSettings_framesBounded
            (framesBounded_of_links hb (judgeSettingsLoaded_frame.links (by decide))) _ _)
        · exact answersOnly_next hb
      · exact idle
    | _ => simp [mayChange] at touches
  · exact fun t taken => framesBounded_of_links hb ((frame_of_exec taken).links touches)

end

/-- Settles O19: a step is a command, which keeps the bound, or one millisecond, which touches no queue. -/
theorem frameQueuesStayBounded : Obligations.FrameQueuesStayBounded := by
  intro s t hb h
  rcases step_cases h with ⟨_, rfl⟩ | ⟨c, rest, _, taken⟩
  · exact hb
  · exact exec_framesBounded (s := { s with pending := rest }) hb c t taken

end Sys2Proof.Machine
end

-- ==== Proofs of the family "sensor links": the start mark, headers and the silence timer (O15, O16, O18) ====
section
/-! SUPPORT. The cells that complete a part of a frame, and the four checks of a header (R121, R122, R124). -/

namespace Sys2Proof.Machine

section

variable {s : State} {h : Head} {cells : List TrackCell}

/-! ### The start mark (R121) -/

/-- The cells that complete the start mark enter HEADER with nothing collected (R121). -/
theorem exec_startMark_found {w : List Bool} (track : (s.link h).tracker = .track)
    (hunting : (s.link h).assembler = .hunt) (present : allPresent (s.link h) cells = true)
    (found : huntBits (s.link h).hunt (bitsToTake (s.link h) cells) = (w, some [])) :
    exec (.startMark h cells) s = .next (s.updLink h fun l =>
      { tracked cells l with assembler := .header, hunt := [], header := [], bits := [] }) := by
  simp only [exec, execStartMark, track, hunting, present, and_self, if_true, found]

/-! ### A header or a frame whose last bit has arrived (R122, R123) -/

/-- The state at which a complete part of a frame is checked: the cells are tracked and their bits have left the
collection. -/
def State.partTaken (h : Head) (cells : List TrackCell) (s : State) : State :=
  s.updLink h fun l => { tracked cells l with bits := [] }

theorem partTaken_link : (s.partTaken h cells).link h = { tracked cells (s.link h) with bits := [] } :=
  updLink_link_same s h fun l => { tracked cells l with bits := [] }

/-- An error in a part just completed is counted and is a bad frame event (R124, R129 to R131). -/
theorem frameError_taken (count : Counters → Counters) :
    badFrameTaken h s ((s.partTaken h cells).frameError h count) ∧
      (((s.partTaken h cells).frameError h count).link h).counters = count (s.link h).counters := by
  unfold State.partTaken State.frameError
  rw [updLink_updLink]
  exact badFrame_taken rfl rfl

/-- Forty bits in HEADER are five bytes, which are checked (R122). -/
theorem exec_headerComplete_checked {bs : List Bool} (track : (s.link h).tracker = .track)
    (header : (s.link h).assembler = .header) (present : allPresent (s.link h) cells = true)
    (collected : bs = (s.link h).bits ++ bitsToTake (s.link h) cells) (full : bs.length = 40) :
    exec (.headerComplete h cells) s = .next ((s.partTaken h cells).checkHeader h (bytesOfBits bs)) := by
  have expected : bs.length = bitsExpected (s.link h) := by rw [full, bitsExpected, header]
  simp only [exec, execHeaderComplete, track, header, present, and_self, if_true,
    collect_complete collected expected]
  rfl

/-! ### The four checks of a header, in their order (R122) -/

section

variable {hd : List Byte}

theorem headerFault_sum (sum : headerSum hd ≠ 0xFF) : headerFault h hd = some addHeaderErr := if_pos sum

variable (sum : headerSum hd = 0xFF)
include sum

theorem headerFault_kind (kind : frameKind (hd.getD 0 0) = none) : headerFault h hd = some addKindErr := by
  simp only [headerFault, sum, kind, ne_eq, not_true_eq_false, if_false]

variable {k : FrameKind} (kind : frameKind (hd.getD 0 0) = some k)
include kind

theorem headerFault_channel (channel : hd.getD 1 0 ≠ BitVec.ofNat 8 h.val) :
    headerFault h hd = some addChannelErr := by
  simp only [headerFault, sum, kind, ne_eq, not_true_eq_false, if_false, channel, not_false_eq_true, if_true]

variable (channel : hd.getD 1 0 = BitVec.ofNat 8 h.val)
include channel

theorem headerFault_length (length : lengthAllowed k (headerLength hd) = false) :
    headerFault h hd = some addLengthErr := by
  simp only [headerFault, sum, kind, ne_eq, not_true_eq_false, if_false, channel, length, if_true]

theorem headerFault_none (length : lengthAllowed k (headerLength hd) = true) : headerFault h hd = none := by
  simp only [headerFault, sum, kind, ne_eq, not_true_eq_false, if_false, channel, length, Bool.true_eq_false]

end

theorem checkHeader_failed {hd : List Byte} {count : Counters → Counters} (fault : headerFault h hd = some count) :
    s.checkHeader h hd = s.frameError h count := by
  simp only [State.checkHeader, fault]

theorem checkHeader_passed {hd : List Byte} (fault : headerFault h hd = none) : s.checkHeader h hd =
    s.updLink h fun l => { l with assembler := .payload, header := hd, bits := [], hunt := [] } := by
  simp only [State.checkHeader, fault]

/-! ### The silence timer (R130) -/

theorem exec_silenceExpiry_due {x : Nat} (up : (s.link h).judge = .up) (armed : (s.link h).silenceTimer = some x)
    (due : x ≤ s.now) : exec (.silenceExpiry h) s = .next (s.linkDown h true) := by
  simp only [exec, execSilenceExpiry, up, armed, State.due, due, decide_true, and_self, if_true]

end

/-- Settles O15: the cells that complete the mark, and the mark itself in line order. -/
theorem startMarkEntersHeader : Obligations.StartMarkEntersHeader :=
  ⟨fun _ _ _ _ track hunting present found => exec_startMark_found track hunting present found, by decide⟩

/-- Settles O16: the header that passes, and the first check that fails, as the counter that `headerFault` names. -/
theorem headerIsChecked : Obligations.HeaderIsChecked := by
  intro h cells bs hd s track header present collected full hhd
  have taken := exec_headerComplete_checked track header present collected full
  rw [← hhd] at taken
  have failed (count : Counters → Counters) (fault : headerFault h hd = some count) :
      ∃ t, exec (.headerComplete h cells) s = .next t ∧ badFrameTaken h s t ∧
        (t.link h).counters = count (s.link h).counters :=
    ⟨_, by rw [taken, checkHeader_failed fault], frameError_taken count⟩
  refine ⟨fun k sum kind channel length => ?_, fun sum => failed _ (headerFault_sum sum),
    fun sum kind => failed _ (headerFault_kind sum kind),
    fun k sum kind channel => failed _ (headerFault_channel sum kind channel),
    fun k sum kind channel length => failed _ (headerFault_length sum kind channel length)⟩
  rw [taken, checkHeader_passed (headerFault_none sum kind channel length), State.partTaken, updLink_updLink]
  rfl

/-- Settles O18: the timer is due, and the link judge goes DOWN. -/
theorem silenceTakesLinkDown : Obligations.SilenceTakesLinkDown := by
  intro h x s up armed due
  obtain ⟨ctrl, inbox, corr⟩ := linkDown_told (s := s) (h := h)
  exact ⟨_, exec_silenceExpiry_due up armed due, linkDown_link, fun j n => linkDown_link_ne n, ctrl, corr, inbox,
    fun j => rfl, linkDown_frame s h true⟩

end Sys2Proof.Machine
end

-- ==== Proofs of the family "sensor links": the bit tracker (O14) ====
section
/-! SUPPORT. The tolerance of a quarter cell as an inequality, and the tracker's three events: the lock, a lone missed cell,
a timing loss (R116, R118 to R120). -/

namespace Sys2Proof.Machine

/-! ### The tolerance of a quarter cell (R116) -/

theorem withinQuarter_iff {x y : Nat} :
    withinQuarter x y = true ↔ 4 * ((x : Int) - y).natAbs ≤ 1000000000 := decide_eq_true_iff

section

variable {r : Rate}

/-- A place against the point `d` parts of a cell after another place, both told in ns. -/
theorem withinQuarter_after_iff {x y d : Nat} : withinQuarter (r.place x) (r.place y + d) = true ↔
    4 * (((x : Int) - y) * r.bps - d).natAbs ≤ 1000000000 := by
  rw [withinQuarter_iff]
  simp only [Rate.place]
  push_cast
  rw [sub_add_eq_sub_sub, sub_mul]

theorem intervalWellFormed_iff {v : Interval} : intervalWellFormed r v = true ↔
    4 * (((v.finish : Int) - v.start) * r.bps - 1000000000).natAbs ≤ 1000000000 ∧
      (v.inner = [] ∨ ∃ m, v.inner = [m] ∧
        4 * (((m : Int) - v.start) * r.bps - 500000000).natAbs ≤ 1000000000) := by
  have long : withinQuarter (r.place v.finish) (r.place v.start + wholeCell) = true ↔
      4 * (((v.finish : Int) - v.start) * r.bps - 1000000000).natAbs ≤ 1000000000 := withinQuarter_after_iff
  have middle (m : Nat) : withinQuarter (r.place m) (r.place v.start + halfCell) = true ↔
      4 * (((m : Int) - v.start) * r.bps - 500000000).natAbs ≤ 1000000000 := withinQuarter_after_iff
  rw [intervalWellFormed, Bool.and_eq_true, long]
  refine and_congr_right fun _ => ?_
  match v.inner with
  | [] => simp
  | [m] => simp [middle]
  | _ :: _ :: _ => simp

variable {p : Nat} {c : TrackCell}

theorem cellPresent_iff : cellPresent r p c = true ↔
    ∃ b, c.boundary = some b ∧ 4 * ((b * r.bps : Int) - p).natAbs ≤ 1000000000 := by
  unfold cellPresent
  cases c.boundary with
  | none => simp
  | some b => simp [withinQuarter_iff, Rate.place]

/-- A cell's bit is 1 where its inner transition falls near mid-cell (R119). -/
theorem cellBit_iff : cellBit r p c = true ↔
    ∃ m, c.mid = some m ∧ withinQuarter (r.place m) (cellStart r p c + halfCell) = true := by
  unfold cellBit
  cases c.mid <;> simp

/-! ### A cell whose boundary is seen, and one whose boundary is missed (R119) -/

section

variable {b : Nat} (seen : c.boundary = some b) (present : cellPresent r p c = true)
include seen present

theorem nextPlace_present : nextPlace r p c = b * r.bps + 1000000000 :=
  congrArg (· + wholeCell) (cellStart_present seen present)

theorem cellBit_present : cellBit r p c = true ↔
    ∃ m, c.mid = some m ∧ 4 * (((m : Int) - b) * r.bps - 500000000).natAbs ≤ 1000000000 := by
  have middle (m : Nat) : withinQuarter (r.place m) (r.place b + halfCell) = true ↔
      4 * (((m : Int) - b) * r.bps - 500000000).natAbs ≤ 1000000000 := withinQuarter_after_iff
  rw [cellBit_iff, cellStart_present seen present]
  exact exists_congr fun m => and_congr_right fun _ => middle m

end

section

variable (missed : cellPresent r p c = false)
include missed

theorem nextPlace_missed : nextPlace r p c = p + 1000000000 := congrArg (· + wholeCell) (cellStart_missed missed)

theorem cellBit_missed : cellBit r p c = true ↔
    ∃ m, c.mid = some m ∧ 4 * ((m * r.bps : Int) - p - 500000000).natAbs ≤ 1000000000 := by
  have middle (m : Nat) : withinQuarter (r.place m) (p + halfCell) = true ↔
      4 * ((m * r.bps : Int) - p - 500000000).natAbs ≤ 1000000000 := by
    rw [withinQuarter_iff, Rate.place, Nat.cast_add, sub_add_eq_sub_sub, Nat.cast_mul]
    rfl
  rw [cellBit_iff, cellStart_missed missed]
  exact exists_congr fun m => and_congr_right fun _ => middle m

end

end

/-! ### The events of the tracker (R118 to R120) -/

section

variable {s : State} {h : Head}

/-- The interval that completes the run of sixteen enters TRACK at its end (R118). -/
theorem exec_trackerLock_locks {vs : List Interval} {v : Interval} (search : (s.link h).tracker = .search)
    (last : vs.getLast? = some v) (formed : ∀ v ∈ vs, intervalWellFormed (s.link h).rate v = true)
    (sixteen : (s.link h).lockRun + vs.length = 16) :
    exec (.trackerLock h vs) s = .next (s.updLink h (lockedLink v.finish)) := by
  have some_interval : vs ≠ [] := by
    rintro rfl
    exact Option.some_ne_none v last.symm
  simp only [exec, execTrackerLock, search, if_true, lockOver_run vs _ some_interval formed sixteen, lastFinish, last]

theorem exec_trackerLock_broken {v : Interval} (search : (s.link h).tracker = .search)
    (broken : intervalWellFormed (s.link h).rate v = false) :
    exec (.trackerLock h [v]) s = .next (s.updLink h fun l => { l with lockRun := 0 }) := by
  simp only [exec, execTrackerLock, search, if_true, lockOver_bad _ broken]

/-- A lone missed cell after cells that are present and complete nothing (R119). -/
theorem exec_missedCell_lone {cells : List TrackCell} {cell : TrackCell} {l : LinkReceiver}
    (track : (s.link h).tracker = .track) (present : allPresent (s.link h) cells = true)
    (lone : (tracked cells (s.link h)).missRun = 0)
    (missed : cellPresent (s.link h).rate (tracked cells (s.link h)).timing cell = false)
    (absorbed : absorbBits (tracked cells (s.link h)) (bitsToTake (s.link h) cells) = some l) :
    exec (.missedCell h cells cell) s = .next (s.updLink h fun _ => missedLink cell l) := by
  have taken : (tracked cells (s.link h)).tracker = .track ∧ allPresent (s.link h) cells = true ∧
      cellPresent (tracked cells (s.link h)).rate (tracked cells (s.link h)).timing cell = false ∧
      (tracked cells (s.link h)).missRun = 0 := ⟨track, present, missed, lone⟩
  simp only [exec, execMissedCell]
  rw [if_pos taken, absorbed]

/-- The second missed cell in a row (R120). -/
theorem exec_timingLoss_second {cell : TrackCell} (track : (s.link h).tracker = .track)
    (second : (s.link h).missRun = 1) (missed : cellPresent (s.link h).rate (s.link h).timing cell = false)
    (absorbed : absorbBits (s.link h) (s.link h).incoming ≠ none) :
    exec (.timingLoss h cell) s = .next ((s.updLink h lossLink).badFrame h) := by
  obtain ⟨l, hl⟩ := Option.ne_none_iff_exists'.mp absorbed
  simp only [exec, execTimingLoss, track, second, missed, and_self, if_true, hl]

/-- A bad frame event leaves the tracker of the receiver as it is (R129, R130). -/
theorem badFrame_tracker : ((s.badFrame h).link h).tracker = (s.link h).tracker ∧
    ((s.badFrame h).link h).lockRun = (s.link h).lockRun ∧
    ((s.badFrame h).link h).missRun = (s.link h).missRun := by
  unfold State.badFrame
  split
  · simp
  · split
    · simp [linkDown_link]
    · simp

end

/-- Settles O14: the lock and a broken run; well-formed, present and missed cells in ns; a lone missed cell; a timing
loss. -/
theorem trackerLocksAndLosesTiming : Obligations.TrackerLocksAndLosesTiming := by
  refine ⟨fun h vs s search => ⟨fun v last formed sixteen => exec_trackerLock_locks search last formed sixteen,
      fun v broken => exec_trackerLock_broken search broken⟩,
    fun r v => intervalWellFormed_iff,
    fun r p c => ⟨cellPresent_iff, fun b seen present => ⟨nextPlace_present seen present, cellBit_present seen present⟩,
      fun missed => ⟨nextPlace_missed missed, cellBit_missed missed⟩⟩, ?_, ?_⟩
  · intro h cells cell s u l track present lone hu missed absorbed
    have run : missRunAfter (s.link h) cells = 0 := by
      unfold missRunAfter
      split
      · exact lone (by assumption)
      · rfl
    have after : tracked cells (s.link h) = u := by
      rw [hu, tracked, run]
      rfl
    obtain ⟨rate, timing⟩ := absorbBits_timing absorbed
    have next : nextPlace l.rate l.timing cell = u.timing + 1000000000 := by
      rw [rate, timing, nextPlace_missed missed]
    subst after
    rw [exec_missedCell_lone track present run missed absorbed]
    unfold missedLink
    rw [next, rate, timing]
  · intro h cell s track second missed absorbed
    obtain ⟨bad, counted⟩ := badFrame_taken (s := s) (h := h) (f := lossLink) rfl rfl
    obtain ⟨tracker, lockRun, missRun⟩ := badFrame_tracker (s := s.updLink h lossLink) (h := h)
    rw [updLink_link_same] at tracker lockRun missRun
    exact ⟨_, exec_timingLoss_second track second missed absorbed, tracker, lockRun, missRun,
      congrArg Counters.timingLosses counted, congrArg Counters.missedCells counted,
      congrArg Counters.aborted counted, bad⟩

end Sys2Proof.Machine
end

-- ==== Proofs of the family "sensor links": the end of a frame (O17) ====
section
/-! SUPPORT. A frame whose CRCs are equal or not, what the link judge makes of a good frame, and the offer to the queue
(R123 to R125, R128 to R132). -/

namespace Sys2Proof.Machine

section

variable {s : State} {h : Head}

/-! ### The second CRC byte (R123) -/

theorem exec_frameEnd_checked {cells : List TrackCell} {bs : List Bool} (track : (s.link h).tracker = .track)
    (payload : (s.link h).assembler = .payload) (present : allPresent (s.link h) cells = true)
    (collected : bs = (s.link h).bits ++ bitsToTake (s.link h) cells)
    (full : bs.length = 8 * (headerLength (s.link h).header + 2)) :
    exec (.frameEnd h cells) s = .next ((s.partTaken h cells).checkFrame h (bytesOfBits bs)) := by
  have expected : bs.length = bitsExpected (s.link h) := by rw [full, bitsExpected, payload]
  simp only [exec, execFrameEnd, track, payload, present, and_self, if_true, collect_complete collected expected]
  rfl

/-- The CRC of header and payload is the one received after them (R123). -/
def crcsEqual (header bytes : List Byte) : Prop :=
  crc16 (header ++ bytes.take (headerLength header)) =
    bytes.getD (headerLength header + 1) 0 ++ bytes.getD (headerLength header) 0

theorem checkFrame_bad {bytes : List Byte} (bad : ¬ crcsEqual (s.link h).header bytes) :
    s.checkFrame h bytes = s.frameError h addCrcErr := if_neg bad

theorem checkFrame_good {bytes : List Byte} {k : FrameKind} (good : crcsEqual (s.link h).header bytes)
    (kind : frameKind ((s.link h).header.getD 0 0) = some k) : s.checkFrame h bytes =
      (s.updLink h huntingLink).goodFrame h k ((s.link h).header.getD 2 0)
        (bytes.take (headerLength (s.link h).header)) := by
  refine (if_pos good).trans ?_
  rw [kind]

/-- The state at which a good frame is stamped: its last cells are tracked and the assembler is back in HUNT. -/
def State.frameTaken (h : Head) (cells : List TrackCell) (s : State) : State :=
  s.updLink h fun l => huntingLink { tracked cells l with bits := [] }

section

variable {cells : List TrackCell}

theorem partTaken_hunting : (s.partTaken h cells).updLink h huntingLink = s.frameTaken h cells :=
  updLink_updLink h _ huntingLink s

theorem frameTaken_link : (s.frameTaken h cells).link h = huntingLink { tracked cells (s.link h) with bits := [] } :=
  updLink_link_same s h fun l => huntingLink { tracked cells l with bits := [] }

theorem frameTaken_link_ne {i : Head} (n : i ≠ h) : (s.frameTaken h cells).link i = s.link i :=
  updLink_link_ne s h i _ n

theorem frameTaken_frame : unchangedBut [.links] s (s.frameTaken h cells) := updLink_frame s h _

end

/-! ### A good frame at the link judge (R129 to R131) -/

/-- A good frame is counted (R125). -/
def countedGood (l : LinkReceiver) : LinkReceiver :=
  { l with counters := { l.counters with good := l.counters.good + 1 } }

/-- A good frame up to its sequence number: counted and judged. -/
def State.goodJudged (h : Head) (s : State) : State := (s.updLink h countedGood).judgeGoodFrame h

/-- A receiver whose judge is UP after a good frame, which may have brought it UP. -/
def judgedUp (now : Nat) (brought : Bool) (l : LinkReceiver) : LinkReceiver :=
  { countedGood l with
    judge := .up, badRun := 0, goodRun := if brought then 0 else l.goodRun, silenceTimer := some (now + l.silence) }

/-- What the link judge leaves of a good frame after which it is UP: the frame that brings it UP raises LINK and presents
the transition to the record (R129 to R131). -/
structure GoodFrameJudged (h : Head) (brought : Bool) (s u : State) : Prop where
  link : u.link h = judgedUp s.now brought (s.link h)
  others : ∀ i, i ≠ h → u.link i = s.link i
  ctrl : u.ctrl = { s.ctrl with raised := s.ctrl.raised ++ (if brought then [.link] else []) }
  occ : brought = false → u.occ = s.occ
  inbox : brought = true → u.inbox h = { s.inbox h with linkMsgs := (s.inbox h).linkMsgs ++ [.up] }
  record : ∀ i, u.record i = s.record i

theorem goodJudged_up (up : (s.link h).judge = .up) : GoodFrameJudged h false s (s.goodJudged h) := by
  have counted : ((s.updLink h countedGood).link h).judge = .up := by rw [updLink_link_same]; exact up
  have judged : s.goodJudged h = (s.updLink h countedGood).updLink h fun l =>
      { l with badRun := 0, silenceTimer := some (s.now + l.silence) } := by
    unfold State.goodJudged State.judgeGoodFrame
    rw [counted]
    rfl
  rw [judged, updLink_updLink]
  refine ⟨?_, fun i n => updLink_link_ne s h i _ n, ?_, fun _ => rfl, nofun, fun _ => rfl⟩
  · rw [updLink_link_same, judgedUp, ← up]
    rfl
  · rw [if_neg Bool.false_ne_true, List.append_nil]
    rfl

theorem linkUp_eq : s.linkUp h = ((s.updLink h fun l =>
    { l with judge := .up, goodRun := 0, badRun := 0, silenceTimer := some (s.now + l.silence) }).raise
      .link).updInbox h fun b => { b with linkMsgs := b.linkMsgs ++ [.up] } := rfl

section

variable (down : (s.link h).judge = .down)
include down

theorem countedGood_down : ((s.updLink h countedGood).link h).judge = .down := by
  rw [updLink_link_same]
  exact down

theorem goodJudged_brings_up (enough : (s.link h).linkIn ≤ (s.link h).goodRun + 1) :
    GoodFrameJudged h true s (s.goodJudged h) := by
  have judged : s.goodJudged h = (s.updLink h countedGood).linkUp h := by
    unfold State.goodJudged State.judgeGoodFrame
    rw [countedGood_down down, updLink_link_same]
    exact if_pos enough
  rw [judged, linkUp_eq, updLink_updLink]
  refine ⟨?_, fun i n => ?_, rfl, nofun, fun _ => updInbox_inbox_same _ h _, fun _ => rfl⟩
  · rw [updInbox_link, raise_link, updLink_link_same]
    rfl
  · rw [updInbox_link, raise_link, updLink_link_ne _ _ _ _ n]

/-- Below LINK_IN the judge counts the good frame and stays DOWN (R129). -/
theorem goodJudged_stays_down (short : (s.link h).goodRun + 1 < (s.link h).linkIn) :
    s.goodJudged h = s.updLink h fun l => { countedGood l with goodRun := l.goodRun + 1 } := by
  unfold State.goodJudged State.judgeGoodFrame
  rw [countedGood_down down, updLink_link_same]
  refine (if_neg (Nat.not_le.mpr short)).trans ?_
  rw [updLink_updLink]
  rfl

end

/-! ### Sequence tracking and the queue (R128, R132) -/

/-- Sequence tracking writes the expected number and the count of gaps alone (R128). -/
theorem sequenced_eq (q : Byte) (l : LinkReceiver) : sequenced q l =
    { l with expected := some (q + 1), counters := { l.counters with gaps := (sequenced q l).counters.gaps } } := by
  unfold sequenced
  split <;> rfl

theorem sequenced_gaps_unset {q : Byte} {l : LinkReceiver} (unset : l.expected = none) :
    (sequenced q l).counters.gaps = l.counters.gaps := by
  simp only [sequenced, unset]

theorem sequenced_gaps_set {q e : Byte} {l : LinkReceiver} (expected : l.expected = some e) :
    (sequenced q l).counters.gaps = l.counters.gaps + (q - e).setWidth 32 := by
  simp only [sequenced, expected]

/-- A receiver to whose queue a frame was offered: it joins the tail, or is counted as an overflow (R132). -/
def offeredLink (f : Frame) (l : LinkReceiver) : LinkReceiver :=
  { l with
    queue := if l.queue.length < 8 then l.queue ++ [f] else l.queue
    counters := { l.counters with
      overflows := if l.queue.length < 8 then l.counters.overflows else l.counters.overflows + 1 } }

/-- What a good frame `f` makes of a receiver `l` whose judge is UP after it: judged, sequenced, and queued or dropped. -/
structure FrameReceived (now : Nat) (brought : Bool) (f : Frame) (l x : LinkReceiver) : Prop where
  assembler : x.assembler = l.assembler
  judge : x.judge = .up
  badRun : x.badRun = 0
  goodRun : brought = true → x.goodRun = 0
  silenceTimer : x.silenceTimer = some (now + l.silence)
  expected : x.expected = some (f.sequence + 1)
  good : x.counters.good = l.counters.good + 1
  gaps : x.counters.gaps = (sequenced f.sequence l).counters.gaps
  room : l.queue.length < 8 → x.queue = l.queue ++ [f] ∧ x.counters.overflows = l.counters.overflows
  full : 8 ≤ l.queue.length → x.queue = l.queue ∧ x.counters.overflows = l.counters.overflows + 1

theorem frameReceived (now : Nat) (brought : Bool) (f : Frame) (l : LinkReceiver) :
    FrameReceived now brought f l (offeredLink f (sequenced f.sequence (judgedUp now brought l))) := by
  have gaps : (sequenced f.sequence (judgedUp now brought l)).counters.gaps = (sequenced f.sequence l).counters.gaps := by
    cases expected : l.expected with
    | none => rw [sequenced_gaps_unset expected, sequenced_gaps_unset (l := judgedUp now brought l) expected]; rfl
    | some e => rw [sequenced_gaps_set expected, sequenced_gaps_set (l := judgedUp now brought l) expected]; rfl
  rw [sequenced_eq, gaps]
  exact ⟨rfl, rfl, rfl, fun b => if_pos b, rfl, rfl, rfl, rfl, fun room => ⟨if_pos room, if_pos room⟩,
    fun full => ⟨if_neg (Nat.not_lt.mpr full), if_neg (Nat.not_lt.mpr full)⟩⟩

theorem offerFrame_link (f : Frame) : (s.offerFrame h f).link h = offeredLink f (s.link h) := by
  unfold State.offerFrame offeredLink
  by_cases room : (s.link h).queue.length < 8
  · rw [if_pos (c := _ < Config.frameQueueSize) room, updLink_link_same, if_pos room, if_pos room]
  · rw [if_neg (c := _ < Config.frameQueueSize) room, raise_link, updLink_link_same, if_neg room, if_neg room]

theorem offerFrame_link_ne {i : Head} (n : i ≠ h) (f : Frame) : (s.offerFrame h f).link i = s.link i := by
  unfold State.offerFrame
  split
  · exact updLink_link_ne s h i _ n
  · rw [raise_link, updLink_link_ne s h i _ n]

theorem offerFrame_ctrl (f : Frame) : (s.offerFrame h f).ctrl = { s.ctrl with
    raised := s.ctrl.raised ++ (if (s.link h).queue.length < 8 then [] else [.overflow]) } := by
  unfold State.offerFrame
  by_cases room : (s.link h).queue.length < 8
  · rw [if_pos (c := _ < Config.frameQueueSize) room, if_pos room, List.append_nil]
    rfl
  · rw [if_neg (c := _ < Config.frameQueueSize) room, if_neg room]
    rfl

/-! ### A good frame that is queued, and one that is let go (R125) -/

variable {k : FrameKind} {q : Byte} {p : List Byte}

theorem goodFrame_unqueued (down : (s.link h).judge = .down) (short : (s.link h).goodRun + 1 < (s.link h).linkIn) :
    s.goodFrame h k q p = s.updLink h fun l => { l with
      goodRun := l.goodRun + 1,
      counters := { l.counters with good := l.counters.good + 1, unqueued := l.counters.unqueued + 1 } } := by
  have still : ((s.goodJudged h).link h).judge = .down := by
    rw [goodJudged_stays_down down short, updLink_link_same]
    exact down
  have letGo : s.goodFrame h k q p = (s.goodJudged h).updLink h fun l =>
      { l with counters := { l.counters with unqueued := l.counters.unqueued + 1 } } := by
    unfold State.goodJudged countedGood at still
    unfold State.goodFrame
    dsimp only
    rw [still]
    rfl
  rw [letGo, goodJudged_stays_down down short, updLink_updLink]
  rfl

section

variable {brought : Bool} (judged : GoodFrameJudged h brought s (s.goodJudged h))
include judged

theorem goodFrame_offered : s.goodFrame h k q p =
    ((s.goodJudged h).updLink h (sequenced q)).offerFrame h ⟨k, q, p, s.ctrl.elapsed, s.survey⟩ := by
  have up : ((s.goodJudged h).link h).judge = .up := by
    rw [judged.link]
    rfl
  unfold State.goodJudged countedGood at up
  unfold State.goodFrame
  dsimp only
  rw [up]
  rfl

theorem goodFrame_received : FrameReceived s.now brought ⟨k, q, p, s.ctrl.elapsed, s.survey⟩ (s.link h)
    ((s.goodFrame h k q p).link h) := by
  rw [goodFrame_offered judged, offerFrame_link, updLink_link_same, judged.link]
  exact frameReceived s.now brought ⟨k, q, p, s.ctrl.elapsed, s.survey⟩ (s.link h)

theorem goodFrame_link_ne {i : Head} (n : i ≠ h) : (s.goodFrame h k q p).link i = s.link i := by
  rw [goodFrame_offered judged, offerFrame_link_ne n, updLink_link_ne _ _ _ _ n, judged.others i n]

theorem goodFrame_ctrl : (s.goodFrame h k q p).ctrl = { s.ctrl with
    raised := s.ctrl.raised ++ (if brought then [.link] else []) ++
      (if (s.link h).queue.length < 8 then [] else [.overflow]) } := by
  rw [goodFrame_offered judged, offerFrame_ctrl, updLink_link_same, sequenced_queue, updLink_ctrl, judged.ctrl,
    judged.link]
  rfl

theorem goodFrame_occ : (s.goodFrame h k q p).occ = (s.goodJudged h).occ := by
  rw [goodFrame_offered judged]
  exact (offerFrame_frame _ h _).occ (by decide)

end

/-- A good frame with the judge UP, or brought UP by it: whether it was brought UP, and what the judge then leaves. -/
theorem goodJudged_cases (good : (s.link h).judge = .up ∨ (s.link h).linkIn ≤ (s.link h).goodRun + 1) :
    ∃ brought, (brought = true ↔ (s.link h).judge = .down) ∧ GoodFrameJudged h brought s (s.goodJudged h) := by
  cases judge : (s.link h).judge with
  | up => exact ⟨false, by simp, goodJudged_up judge⟩
  | down =>
    have enough := good.resolve_left (by rw [judge]; exact nofun)
    exact ⟨true, by simp, goodJudged_brings_up judge enough⟩

end

/-- Settles O17: equal CRCs with the judge UP or brought UP, equal CRCs with it still DOWN, and unequal CRCs. -/
theorem frameEndQueuesGoodFrames : Obligations.FrameEndQueuesGoodFrames := by
  intro h cells bs bytes payload k s f gaps track assembling present collected full hbytes hpayload kind hf hgaps
  have taken := exec_frameEnd_checked track assembling present collected full
  rw [← hbytes] at taken
  have header : ((s.partTaken h cells).link h).header = (s.link h).header := by rw [partTaken_link]; rfl
  subst hpayload
  refine ⟨fun equal => ?_, fun unequal => ?_⟩
  · have good : crcsEqual ((s.partTaken h cells).link h).header bytes := by rw [header]; exact equal
    rw [checkFrame_good good (by rw [header]; exact kind), header, partTaken_hunting] at taken
    set payload := bytes.take (headerLength (s.link h).header)
    refine ⟨fun comesUp => ?_, fun down short => ?_⟩
    · obtain ⟨brought, hbrought, judged⟩ := goodJudged_cases (s := s.frameTaken h cells) (h := h)
        (by rw [frameTaken_link]; exact comesUp)
      have occ := goodFrame_occ judged (k := k) (q := (s.link h).header.getD 2 0) (p := payload)
      have ctrl := goodFrame_ctrl judged (k := k) (q := (s.link h).header.getD 2 0) (p := payload)
      have received := goodFrame_received judged (k := k) (q := (s.link h).header.getD 2 0) (p := payload)
      rw [frameTaken_link] at hbrought ctrl received
      have counted : (sequenced f.sequence (huntingLink { tracked cells (s.link h) with bits := [] })).counters.gaps =
          gaps := by
        rw [hgaps]
        cases expected : (s.link h).expected with
        | none => exact sequenced_gaps_unset expected
        | some e => exact sequenced_gaps_set expected
      subst hf
      refine ⟨_, taken, received.assembler, received.judge, received.badRun, received.silenceTimer, received.expected,
        received.good, received.gaps.trans counted, received.room, received.full, fun up => ?_, fun down => ?_,
        fun i n => (goodFrame_link_ne judged n).trans (frameTaken_link_ne n), by rw [ctrl]; rfl,
        frameTaken_frame.andThen (goodFrame_frame _ h _ _ _) (by decide)⟩
      · obtain rfl : brought = false := Bool.eq_false_iff.mpr fun b => nomatch up.symm.trans (hbrought.mp b)
        refine ⟨occ.trans (judged.occ rfl), ?_⟩
        rw [ctrl, if_neg Bool.false_ne_true, List.append_nil]
        rfl
      · obtain rfl : brought = true := hbrought.mpr down
        refine ⟨received.goodRun rfl, ?_, fun i => ?_, by rw [ctrl]; rfl⟩
        · exact (congrArg (fun o : OccupationController => o.inbox[h]) occ).trans (judged.inbox rfl)
        · exact (congrArg (fun o : OccupationController => o.records[i]) occ).trans (judged.record i)
    · rw [goodFrame_unqueued (by rw [frameTaken_link]; exact down) (by rw [frameTaken_link]; exact short),
        State.frameTaken, updLink_updLink] at taken
      refine ⟨_, taken, ?_⟩
      rw [updLink_link_same]
      exact ⟨rfl, down, rfl, rfl, rfl, rfl, rfl, updLink_frame s h _⟩
  · have bad : ¬ crcsEqual ((s.partTaken h cells).link h).header bytes := by rw [header]; exact unequal
    rw [checkFrame_bad bad] at taken
    exact ⟨_, taken, frameError_taken addCrcErr⟩

end Sys2Proof.Machine
end

-- ==== Proofs of the family "sheets and lanes": entries into the engine states, and looks that end ====
section
/-! SUPPORT. The engine's entries into STARTING and STOPPING, and the ways in which a look ends, one equation for each; the
statements of the family cite these (R154, R186 to R188). -/

namespace Sys2Proof.Machine

/-! ### Entries into STARTING and STOPPING (R186 to R188) -/

section

variable (s : State)

@[simp] theorem refreshRequested_root (c : ControlPort) : (refreshRequested c).root = c.root := by
  obtain ⟨f, p, e⟩ := refreshRequested_eq c
  rw [e]

/-- With no status block address a request for a refresh has no effect (R193). -/
theorem refreshRequested_unaddressed {c : ControlPort} (unaddressed : c.statusAddress = none) :
    refreshRequested c = c := if_pos unaddressed

/-- An abandoned refresh raises the generation counter by 2 (R187, R194). -/
theorem abandonRefresh_ctrl : s.abandonRefresh.ctrl = { s.ctrl with
    refresh := none
    generation := if s.ctrl.refresh = none then s.ctrl.generation else s.ctrl.generation + 2 } := by
  unfold State.abandonRefresh
  split
  · rename_i idle
    rw [if_pos idle, ← idle]
  · rename_i going
    rw [if_neg (by rw [going]; exact nofun)]

/-- The Control Port at entry into STARTING (R187, R193). -/
theorem enterStarting_ctrl : s.enterStarting.ctrl = { s.ctrl with
    engine := .starting, faultReason := .none, directory := s.ctrl.root, starting := some .directory
    statusAddress := none, statusTimer := none, refreshPending := false, refresh := none
    generation := if s.ctrl.refresh = none then s.ctrl.generation else s.ctrl.generation + 2
    raised := s.ctrl.raised ++ [.engine] } := by
  unfold State.enterStarting
  dsimp only
  rw [(presentDirectory_frame _).ctrl (by decide), setEngine_ctrl, setSlot_ctrl, abandonRefresh_ctrl]
  exact refreshRequested_unaddressed rfl

/-- STOP in RUNNING, before the look under way and the stop condition are seen to (R186, R154). -/
def State.enterStopping (s : State) : State :=
  let t := (s.setEngine .stopping).clearAllFlags
  { t with walker := { t.walker with pollTimer := none } }

theorem stopCommand_running (running : s.ctrl.engine = .running) :
    s.stopCommand = s.enterStopping.stopLook.testStop := by
  unfold State.stopCommand
  rw [running]
  rfl

theorem stopCommand_idle (idle : s.ctrl.engine ≠ .running) : s.stopCommand = s := by
  unfold State.stopCommand
  split
  · exact absurd (by assumption) idle
  all_goals rfl

theorem enterStopping_ctrl : s.enterStopping.ctrl =
    refreshRequested { s.ctrl with engine := .stopping, raised := s.ctrl.raised ++ [.engine] } := setEngine_ctrl s _

theorem enterStopping_walker : s.enterStopping.walker = { s.walker with
    pollTimer := none, lanes := s.walker.lanes.map fun n => { n with flag := false } } := by
  unfold State.enterStopping State.clearAllFlags
  dsimp only
  rw [(setEngine_frame s _).walker (by decide)]

theorem enterStopping_lane (n : Lane) : s.enterStopping.lane n = { s.lane n with flag := false } := by
  unfold State.lane
  rw [enterStopping_walker]
  exact Vector.getElem_map _ _

theorem testStop_stops (stopping : s.ctrl.engine = .stopping) (stop : stopHolds s) :
    s.testStop = s.setEngine .stopped := if_pos ⟨stopping, (stopCondition_iff s).mpr stop⟩

theorem testStop_waits (unmet : ¬ stopHolds s) : s.testStop = s :=
  if_neg fun ⟨_, stop⟩ => unmet ((stopCondition_iff s).mp stop)

theorem enterStopping_frame : unchangedBut [.walker, .ctrl] s s.enterStopping :=
  ((setEngine_frame s _).andThen (clearAllFlags_frame _) (fun _ m => m)).andThen (frame_walker _ _) (by decide)

end

/-! ### A look that ends (R142, R154) -/

section

variable {s : State} {k : Look}

/-- A look that STOP has not met, or that has placed no write, ends without a test of the stop condition (R154, R188). -/
theorem endLook_untested (untested : k.stopped = false ∨ k.placed = false) (st : LaneState) (again : Bool) :
    s.endLook k st again =
      (s.updLane k.lane fun n => { n with state := st, flag := n.flag || again }).setLook none := by
  unfold State.endLook
  exact if_neg (by rcases untested with e | e <;> simp [e])

theorem returnClaim_claimed {c : SetId} (claimed : k.claim = some c) : s.returnClaim k = s.releaseUse c := by
  simp only [State.returnClaim, claimed]

/-- Where a look ends, its claim falls from the use count of the set that it names (R146, R154). -/
theorem returnClaim_use {c : SetId} (claimed : k.claim = some c) :
    ((s.returnClaim k).calSet c).use = (s.calSet c).use - 1 := by
  rw [returnClaim_claimed claimed, State.releaseUse, updCalSet_calSet_same]

/-- A look that has placed no write ends with the lane in the state of before the look (R154). -/
theorem lookStopped_unplaced (unplaced : k.placed = false) : s.lookStopped k =
    ((s.returnClaim k).updLane k.lane fun n => { n with state := k.before, flag := n.flag || false }).setLook none :=
  endLook_untested (.inr unplaced) _ _

/-! ### A look at a STOP (R154, log 15) -/

theorem stopLook_none (free : s.walker.look = none) : s.stopLook = s := by
  simp only [State.stopLook, free]

theorem stopLook_marks (hk : s.walker.look = some k) (waits : k.placed = true ∨ s.slot .sheetWalker ≠ none) :
    s.stopLook = s.setLook (some { k with stopped := true }) := by
  simp only [State.stopLook, hk, waits, if_true]

theorem stopLook_ends (hk : s.walker.look = some k) (unplaced : k.placed = false)
    (free : s.slot .sheetWalker = none) : s.stopLook = s.lookStopped k := by
  simp [State.stopLook, hk, unplaced, free]

end

/-- What a STOP makes of the look under way: a look with a write placed or an access in flight is marked, another ends with
the lane in its state of before (R154). -/
structure LookMet (s t : State) : Prop where
  frame : unchangedBut [.cal, .walker] s t
  poll : t.walker.pollTimer = s.walker.pollTimer
  flags : ∀ n, (t.lane n).flag = (s.lane n).flag
  free : s.walker.look = none → t.walker.look = none
  marked : ∀ k, s.walker.look = some k → (k.placed = true ∨ s.slot .sheetWalker ≠ none) →
    t.walker.look = some { k with stopped := true }
  ended : ∀ k, s.walker.look = some k → k.placed = false → s.slot .sheetWalker = none →
    t.walker.look = none ∧ (t.lane k.lane).state = k.before

theorem stopLook_met (s : State) : LookMet s s.stopLook := by
  cases hk : s.walker.look with
  | none =>
    rw [stopLook_none hk]
    exact ⟨unchangedBut_self _ s, rfl, fun _ => rfl, id, fun _ h => (nomatch hk.symm.trans h),
      fun _ h => (nomatch hk.symm.trans h)⟩
  | some k =>
    by_cases waits : k.placed = true ∨ s.slot .sheetWalker ≠ none
    · rw [stopLook_marks hk waits]
      refine ⟨(setLook_frame s _).widen (by decide), rfl, fun _ => rfl, fun h => (nomatch hk.symm.trans h),
        fun j hj _ => ?_, fun j hj unplaced free => ?_⟩ <;> cases hk.symm.trans hj
      · rfl
      · exact absurd waits (by simp [unplaced, free])
    · have ⟨unplaced, free⟩ : k.placed = false ∧ s.slot .sheetWalker = none := by simpa using waits
      have claim := returnClaim_frame s k
      have lane (n : Lane) : (s.returnClaim k).lane n = s.lane n :=
        congrArg (fun w : SheetWalker => w.lanes[n]) (claim.walker (by decide))
      rw [stopLook_ends hk unplaced free, lookStopped_unplaced unplaced]
      refine ⟨(claim.andThen (updLane_frame _ _ _) (fun _ m => m)).andThen (setLook_frame _ _) (by decide), ?_,
        fun n => ?_, fun h => (nomatch hk.symm.trans h), fun j hj waits => ?_, fun j hj _ _ => ?_⟩
      · show (s.returnClaim k).walker.pollTimer = _
        rw [claim.walker (by decide)]
      · rw [setLook_lane, updLane_lane_eq]
        split
        · subst n
          rw [lane, Bool.or_false]
        · rw [lane]
      · cases hk.symm.trans hj
        exact absurd waits (by simp [unplaced, free])
      · cases hk.symm.trans hj
        refine ⟨rfl, ?_⟩
        rw [setLook_lane, updLane_lane_same]

namespace LookMet

variable {s t : State} (met : LookMet s t)
include met

/-- A look that is left after a STOP is one that the STOP has met. -/
theorem look_cases : t.walker.look = none ∨ ∃ k, s.walker.look = some k ∧
    t.walker.look = some { k with stopped := true } := by
  cases hk : s.walker.look with
  | none => exact .inl (met.free hk)
  | some k =>
    by_cases waits : k.placed = true ∨ s.slot .sheetWalker ≠ none
    · exact .inr ⟨k, rfl, met.marked k hk waits⟩
    · have ⟨unplaced, free⟩ : k.placed = false ∧ s.slot .sheetWalker = none := by simpa using waits
      exact .inl (met.ended k hk unplaced free).1

theorem stopped {k : Look} (hk : t.walker.look = some k) : k.stopped = true := by
  rcases met.look_cases with none | ⟨j, -, marked⟩
  · cases none.symm.trans hk
  · cases marked.symm.trans hk
    rfl

/-- A look is carried through after a STOP where it had placed a write before (R154, R188). -/
theorem carried_iff : (∀ k, t.walker.look = some k → k.stopped = true → k.placed = false) ↔
    ∀ k, s.walker.look = some k → k.placed = false := by
  constructor
  · intro uncarried k hk
    by_contra placed
    have marked := met.marked k hk (.inl ((Bool.not_eq_false _).mp placed))
    exact placed (uncarried { k with stopped := true } marked rfl)
  · intro unplaced k hk _
    rcases met.look_cases with none | ⟨j, hj, marked⟩
    · cases none.symm.trans hk
    · cases marked.symm.trans hk
      exact unplaced j hj

end LookMet

end Sys2Proof.Machine
end

-- ==== Proofs of the family "sheets and lanes": the engine stays consistent (O46) ====
section
/-! O46: what the invariant reads of a state is a view of the Control Port, the scan owner and the Sheet Walker. Most
events leave that view; one lemma for each operation that changes the engine state, moves a look, or ends a scan. -/

namespace Sys2Proof.Machine

/-! ### What the invariant reads -/

/-- The fields of the Control Port that the invariant reads. -/
def ControlPort.mode (c : ControlPort) : EngineState × FaultReason × Option StartPhase × Word :=
  (c.engine, c.faultReason, c.starting, c.root)

/-- What the invariant reads of a state. -/
def State.engineView (s : State) :
    (EngineState × FaultReason × Option StartPhase × Word) × Option ScanOwner × SheetWalker :=
  (s.ctrl.mode, s.tide.scanOwner, s.walker)

/-- The invariant but for the Sheet Walker: the fault reason, the start-up and ROOT (R184, R186, R187). -/
def modeConsistent (c : ControlPort) (owner : Option ScanOwner) : Prop :=
  (c.engine = .faulted ↔ c.faultReason ≠ .none) ∧ (c.engine = .starting ↔ c.starting ≠ none) ∧
  (owner = some .starting → c.starting = some .scan) ∧ c.root.toNat % 8 = 0

/-- The Sheet Walker outside RUNNING: no poll timer, no look flag, and no look that a STOP has not met (R141, R154). -/
def walkerIdle (w : SheetWalker) : Prop :=
  w.pollTimer = none ∧ (∀ n : Lane, w.lanes[n].flag = false) ∧ ∀ k, w.look = some k → k.stopped = true

theorem engineConsistent_iff (s : State) : engineConsistent s ↔
    modeConsistent s.ctrl s.tide.scanOwner ∧ (s.ctrl.engine ≠ .running → walkerIdle s.walker) := by
  have lane (n : Lane) : s.lane n = s.walker.lanes[n] := rfl
  simp only [engineConsistent, modeConsistent, walkerIdle, lane]
  constructor
  · rintro ⟨fault, start, scan, poll, flags, look, root⟩
    refine ⟨⟨fault, start, scan, root⟩, fun idle => ⟨?_, fun n => ?_, fun k hk => ?_⟩⟩
    · exact not_not.mp fun armed => idle (poll armed)
    · exact Bool.eq_false_iff.mpr fun set => idle (flags n set)
    · exact (Bool.not_eq_false _).mp fun going => idle (look k hk going)
  · rintro ⟨⟨fault, start, scan, root⟩, idle⟩
    have running {p : Prop} (refuted : walkerIdle s.walker → ¬ p) (h : p) : s.ctrl.engine = .running :=
      not_not.mp fun n => refuted (idle n) h
    refine ⟨fault, start, scan, running fun w armed => armed w.1, fun n => running fun w set => ?_,
      fun k hk => running fun w going => ?_, root⟩
    · exact Bool.false_ne_true ((w.2.1 n).symm.trans set)
    · exact Bool.false_ne_true (going.symm.trans (w.2.2 k hk))

section

variable {s t : State}

theorem mode_inj {c d : ControlPort} (h : d.mode = c.mode) :
    d.engine = c.engine ∧ d.faultReason = c.faultReason ∧ d.starting = c.starting ∧ d.root = c.root := by
  simpa only [ControlPort.mode, Prod.mk.injEq] using h

theorem engine_of_view (h : t.engineView = s.engineView) : t.ctrl.engine = s.ctrl.engine :=
  (mode_inj (congrArg Prod.fst h)).1

theorem modeConsistent_of_mode {c d : ControlPort} {o : Option ScanOwner} (h : d.mode = c.mode)
    (hm : modeConsistent c o) : modeConsistent d o := by
  obtain ⟨engine, reason, starting, root⟩ := mode_inj h
  unfold modeConsistent
  rw [engine, reason, starting, root]
  exact hm

/-- An event that leaves the view keeps the invariant. -/
theorem engineConsistent_of_view (hc : engineConsistent s) (h : t.engineView = s.engineView) :
    engineConsistent t := by
  rw [engineConsistent_iff] at hc ⊢
  obtain ⟨mode, idle⟩ := hc
  simp only [State.engineView, Prod.mk.injEq] at h
  obtain ⟨same, owner, walker⟩ := h
  obtain ⟨engine, -⟩ := mode_inj same
  rw [owner, walker, engine]
  exact ⟨modeConsistent_of_mode same mode, idle⟩

theorem view_of_mode {bs : List Block} (frame : unchangedBut bs s t) (tide : .tide ∉ bs) (walker : .walker ∉ bs)
    (mode : t.ctrl.mode = s.ctrl.mode) : t.engineView = s.engineView := by
  unfold State.engineView
  rw [mode, frame.tide tide, frame.walker walker]

theorem view_of_frame {bs : List Block} (frame : unchangedBut bs s t) (ctrl : .ctrl ∉ bs) (tide : .tide ∉ bs)
    (walker : .walker ∉ bs) : t.engineView = s.engineView :=
  view_of_mode frame tide walker (congrArg ControlPort.mode (frame.ctrl ctrl))

/-- An event at the Sheet Walker that leaves it idle outside RUNNING keeps the invariant. -/
theorem engineConsistent_of_walker (hc : engineConsistent s) (mode : t.ctrl.mode = s.ctrl.mode)
    (owner : t.tide.scanOwner = s.tide.scanOwner)
    (idle : s.ctrl.engine ≠ .running → walkerIdle s.walker → walkerIdle t.walker) : engineConsistent t := by
  rw [engineConsistent_iff] at hc ⊢
  obtain ⟨consistent, walker⟩ := hc
  obtain ⟨engine, -⟩ := mode_inj mode
  rw [owner, engine]
  exact ⟨modeConsistent_of_mode mode consistent, fun n => idle n (walker n)⟩

/-- A scan that ends, or is not the start-up's, keeps the invariant (R109, R111). -/
theorem engineConsistent_of_owner (hc : engineConsistent s) (mode : t.ctrl.mode = s.ctrl.mode)
    (walker : t.walker = s.walker) (owner : t.tide.scanOwner ≠ some .starting) : engineConsistent t := by
  rw [engineConsistent_iff] at hc ⊢
  obtain ⟨⟨fault, start, scan, root⟩, idle⟩ := hc
  obtain ⟨engine, -⟩ := mode_inj mode
  rw [walker, engine]
  exact ⟨modeConsistent_of_mode mode ⟨fault, start, fun h => absurd h owner, root⟩, idle⟩

section

variable (hc : engineConsistent s)
include hc

theorem faultReason_none (unfaulted : s.ctrl.engine ≠ .faulted) : s.ctrl.faultReason = .none := by
  obtain ⟨⟨fault, -⟩, -⟩ := (engineConsistent_iff s).mp hc
  exact not_not.mp fun h => unfaulted (fault.mpr h)

theorem engine_starting {p : StartPhase} (starting : s.ctrl.starting = some p) : s.ctrl.engine = .starting := by
  obtain ⟨⟨-, start, -⟩, -⟩ := (engineConsistent_iff s).mp hc
  exact start.mpr (by rw [starting]; exact nofun)

theorem starting_none (engine : s.ctrl.engine ≠ .starting) : s.ctrl.starting = none := by
  obtain ⟨⟨-, start, -⟩, -⟩ := (engineConsistent_iff s).mp hc
  exact not_not.mp fun h => engine (start.mpr h)

theorem starting_scan (owner : s.tide.scanOwner = some .starting) : s.ctrl.starting = some .scan := by
  obtain ⟨⟨-, -, scan, -⟩, -⟩ := (engineConsistent_iff s).mp hc
  exact scan owner

theorem scanOwner_ne (unscanned : s.ctrl.starting ≠ some .scan) : s.tide.scanOwner ≠ some .starting :=
  fun owner => unscanned (starting_scan hc owner)

theorem root_aligned : s.ctrl.root.toNat % 8 = 0 := by
  obtain ⟨⟨-, -, -, root⟩, -⟩ := (engineConsistent_iff s).mp hc
  exact root

theorem walker_idle (idle : s.ctrl.engine ≠ .running) : walkerIdle s.walker :=
  ((engineConsistent_iff s).mp hc).2 idle

end

end

theorem refreshRequested_mode (c : ControlPort) : (refreshRequested c).mode = c.mode := by
  simp only [ControlPort.mode, refreshRequested_engine, refreshRequested_faultReason, refreshRequested_starting,
    refreshRequested_root]

/-! ### Events that leave the view -/

section

variable (s : State)

theorem linkDown_view (h : Head) (b : Bool) : (s.linkDown h b).engineView = s.engineView := by
  unfold State.linkDown
  dsimp only
  split <;> rfl

theorem badFrame_view (h : Head) : (s.badFrame h).engineView = s.engineView := by
  unfold State.badFrame
  split
  · rfl
  · split
    · exact linkDown_view s h true
    · rfl

theorem frameError_view (h : Head) (f : Counters → Counters) : (s.frameError h f).engineView = s.engineView :=
  badFrame_view (s.updLink h _) h

theorem judgeGoodFrame_view (h : Head) : (s.judgeGoodFrame h).engineView = s.engineView := by
  unfold State.judgeGoodFrame
  split
  · split <;> rfl
  · rfl

theorem offerFrame_view (h : Head) (f : Frame) : (s.offerFrame h f).engineView = s.engineView := by
  unfold State.offerFrame
  split <;> rfl

theorem goodFrame_view (h : Head) (k : FrameKind) (q : Byte) (p : List Byte) :
    (s.goodFrame h k q p).engineView = s.engineView := by
  unfold State.goodFrame
  dsimp only
  have judged := judgeGoodFrame_view
    (s.updLink h fun l => { l with counters := { l.counters with good := l.counters.good + 1 } }) h
  split
  · exact (offerFrame_view (State.updLink h (sequenced q) _) h _).trans judged
  · exact judged

theorem checkHeader_view (h : Head) (bs : List Byte) : (s.checkHeader h bs).engineView = s.engineView := by
  unfold State.checkHeader
  split
  · exact frameError_view s h _
  · rfl

theorem checkFrame_view (h : Head) (bs : List Byte) : (s.checkFrame h bs).engineView = s.engineView := by
  unfold State.checkFrame
  dsimp only
  split
  · split
    · exact goodFrame_view (s.updLink h huntingLink) h _ _ _
    · exact frameError_view s h _
  · exact frameError_view s h _

theorem collect_view (h : Head) (cells : List TrackCell) (f : List Byte → State → State)
    (hf : ∀ bs t, (f bs t).engineView = t.engineView) : (s.collect h cells f).engineView = s.engineView := by
  unfold State.collect
  dsimp only
  split
  · rfl
  · split
    · exact hf _ (s.updLink h fun l => { tracked cells l with bits := [] })
    · rfl

theorem judgeClear_view (h : Head) : (s.judgeClear h).engineView = s.engineView := by
  unfold State.judgeClear
  split <;> rfl

theorem abandonFrame_view (h : Head) : (s.abandonFrame h).engineView = s.engineView :=
  view_of_frame (abandonFrame_frame s h) (by decide) (by decide) (by decide)

theorem sampleDone_view (e : Evaluator) : (s.sampleDone e).engineView = s.engineView :=
  view_of_frame (sampleDone_frame s e) (by decide) (by decide) (by decide)

theorem toDelivery_view (e : Evaluator) (x : Sample) (t : Nat) (c : SampleClass) (b : Bool) :
    (s.toDelivery e x t c b).engineView = s.engineView :=
  view_of_frame (toDelivery_frame s e x t c b) (by decide) (by decide) (by decide)

theorem judge_view (h : Head) (x : Sample) : (s.judge h x).engineView = s.engineView := by
  unfold State.judge
  dsimp only
  split <;> rfl

theorem judgeNext_view (e : Evaluator) (x : Sample) : (s.judgeNext e x).engineView = s.engineView := by
  unfold State.judgeNext
  dsimp only
  split
  · exact sampleDone_view (s.updHead e.head _) e
  · split
    · exact toDelivery_view (s.updHead e.head _) _ _ _ _ _
    · split
      · exact toDelivery_view (s.updHead e.head _) _ _ _ _ _
      · exact (toDelivery_view _ _ _ _ _ _).trans (judge_view (s.updHead e.head _) _ _)

theorem setLinkSettings_view (h : Head) (x : HeadSettings) : (s.setLinkSettings h x).engineView = s.engineView := by
  unfold State.setLinkSettings
  split
  · rfl
  · split
    · exact linkDown_view s h true
    · rfl

theorem resetPart_view (a b c : Bool) : (s.resetPart a b c).engineView = s.engineView :=
  view_of_frame (resetPart_frame s a b c) (by decide) (by decide) (by decide)

theorem setHead_view (h : Head) (x : HeadSettings) : (s.setHead h x).engineView = s.engineView := by
  have cleared := judgeClear_view s h
  have abandoned := abandonFrame_view ((s.judgeClear h).updHead h (loadJudgeSettings x)) h
  exact (setLinkSettings_view _ h x).trans (abandoned.trans cleared)

theorem detachLoop_view (l : LoopId) (k : BatchKind) (f : Loop → Loop) :
    (s.detachLoop l k f).engineView = s.engineView :=
  view_of_mode (detachLoop_frame s l k f) (by decide) (by decide) (by rw [detachLoop_ctrl]; rfl)

theorem loopCheck_view {role : Role} {l : LoopId} {t : State} (h : s.loopCheck role l = some t) :
    t.engineView = s.engineView := by
  unfold State.loopCheck at h
  split at h <;> cases h <;> rfl

theorem sheetLoopCheck_view {role : Role} {loop : Option LoopId} {t : State} {g : BitVec 32}
    (h : s.sheetLoopCheck role loop = some (t, g)) : t.engineView = s.engineView := by
  unfold State.sheetLoopCheck at h
  split at h
  · cases h
    rfl
  · obtain ⟨u, checked, e⟩ := Option.map_eq_some_iff.mp h
    cases e
    exact loopCheck_view s checked

theorem reopenLoop_view (l : LoopId) : (s.reopenLoop l).engineView = s.engineView := by
  unfold State.reopenLoop
  dsimp only
  split
  · exact detachLoop_view ((s.updLoop l _).raise .loop) l _ _
  · rfl

theorem joinOf_view (h : Head) (r : OccRecord) : (s.joinOf h r).1.engineView = s.engineView := by
  have closed (turn : Bool) (l : LoopId) : (s.joinClose turn l r).1.engineView = s.engineView := by
    unfold State.joinClose
    dsimp only
    split
    · exact detachLoop_view s l _ _
    · exact reopenLoop_view s l
  unfold State.joinOf
  split
  · rfl
  · split
    · unfold State.joinStation
      split
      · rfl
      · split
        · rfl
        · split
          · rfl
          · split <;> rfl
    · unfold State.joinOpen
      split
      · rfl
      · exact detachLoop_view s _ _ _
    · exact closed false _
    · exact closed true _

theorem driftOkay_view : s.driftOkay.engineView = s.engineView := by
  unfold State.driftOkay
  split <;> rfl

theorem answerTide_view (v : Option Int) : (s.answerTide v).engineView = s.engineView := by
  unfold State.answerTide
  split
  · rfl
  · split
    · split <;> rfl
    all_goals rfl

theorem requestRefresh_view : s.requestRefresh.engineView = s.engineView :=
  view_of_mode (requestRefresh_frame s) (by decide) (by decide)
    (by rw [requestRefresh_ctrl, refreshRequested_mode])

theorem refreshOkay_view : s.refreshOkay.engineView = s.engineView := by
  unfold State.refreshOkay
  split <;> rfl

theorem refreshFault_view : s.refreshFault.engineView = s.engineView := by
  unfold State.refreshFault
  split <;> rfl

theorem reportIfProvisional_view (h : Head) (p : Report) : (s.reportIfProvisional h p).engineView = s.engineView :=
  view_of_frame (reportIfProvisional_frame s h p) (by decide) (by decide) (by decide)

theorem returnClaim_view (k : Look) : (s.returnClaim k).engineView = s.engineView :=
  view_of_frame (returnClaim_frame s k) (by decide) (by decide) (by decide)

theorem takeRecord_view (h : Head) (a : Word) (q : StationRequest) (role : Role) (l : Option LoopId)
    (g : BitVec 32) (c : SetId) : (s.takeRecord h a q role l g c).engineView = s.engineView :=
  view_of_frame (takeRecord_frame s h a q role l g c) (by decide) (by decide) (by decide)

end

/-! ### Changes of engine state (R186 to R188) -/

/-- A check of the directory that fails gives a reason (R187). -/
theorem directoryFault_reason {ws : List Word} {r : FaultReason} (failed : directoryFault ws = some r) :
    r ≠ .none := by
  rintro rfl
  unfold directoryFault at failed
  dsimp only at failed
  split_ifs at failed <;> exact nomatch failed

section

variable {s : State} (hc : engineConsistent s)
include hc

/-- STOPPED is entered from STOPPING alone (R188). -/
theorem testStop_consistent : engineConsistent s.testStop := by
  rcases testStop_cases s with same | ⟨stopping, _, stopped⟩
  · rw [same]
    exact hc
  · have reason := faultReason_none hc (by rw [stopping]; exact nofun)
    have starting := starting_none hc (by rw [stopping]; exact nofun)
    have idle := walker_idle hc (by rw [stopping]; exact nofun)
    have owner := scanOwner_ne hc (by rw [starting]; exact nofun)
    have frame := setEngine_frame s .stopped
    rw [stopped, engineConsistent_iff, setEngine_ctrl, frame.tide (by decide), frame.walker (by decide)]
    simp [modeConsistent, reason, starting, root_aligned hc, idle, owner]

/-- RUNNING is entered by a state that is not FAULTED, with no scan of a start-up left (R186). -/
theorem enterRunning_consistent (unfaulted : s.ctrl.engine ≠ .faulted) (owner : s.tide.scanOwner ≠ some .starting) :
    engineConsistent s.enterRunning := by
  have reason := faultReason_none hc unfaulted
  rw [engineConsistent_iff, enterRunning_ctrl, (enterRunning_frame s).tide (by decide)]
  simp [modeConsistent, reason, owner, root_aligned hc]

/-- FAULTED is entered with a reason, with no scan of a start-up left (R187). -/
theorem enterFaulted_consistent {r : FaultReason} (reason : r ≠ .none) (halted : s.ctrl.engine ≠ .running)
    (owner : s.tide.scanOwner ≠ some .starting) : engineConsistent (s.enterFaulted r) := by
  have idle := walker_idle hc halted
  have frame := enterFaulted_frame s r
  rw [engineConsistent_iff, enterFaulted_ctrl, frame.tide (by decide), frame.walker (by decide)]
  simp [modeConsistent, reason, owner, root_aligned hc, idle]

/-- STARTING is entered from HALTED or FAULTED (R186, R187). -/
theorem enterStarting_consistent (halted : s.ctrl.engine ≠ .running) (started : s.ctrl.engine ≠ .starting) :
    engineConsistent s.enterStarting := by
  have idle := walker_idle hc halted
  have owner := scanOwner_ne hc (by rw [starting_none hc started]; exact nofun)
  have frame := enterStarting_frame s
  rw [engineConsistent_iff, enterStarting_ctrl, frame.tide (by decide), frame.walker (by decide)]
  simp [modeConsistent, owner, root_aligned hc, idle]

theorem runCommand_consistent : engineConsistent s.runCommand := by
  unfold State.runCommand
  split
  case h_1 halted => exact enterStarting_consistent hc (by rw [halted]; exact nofun) (by rw [halted]; exact nofun)
  case h_2 faulted => exact enterStarting_consistent hc (by rw [faulted]; exact nofun) (by rw [faulted]; exact nofun)
  case h_3 stopped =>
    have starting := starting_none hc (by rw [stopped]; exact nofun)
    exact enterRunning_consistent hc (by rw [stopped]; exact nofun) (scanOwner_ne hc (by rw [starting]; exact nofun))
  all_goals exact hc

end

/-! ### Looks (R142 to R154) -/

/-- A look that no STOP has met goes on in RUNNING alone (R154). -/
def Look.allowedIn (k : Look) (e : EngineState) : Prop := k.stopped = false → e = .running

section

variable {s : State} (hc : engineConsistent s)
include hc

theorem look_allowed {k : Look} (hk : s.walker.look = some k) : k.allowedIn s.ctrl.engine := by
  intro going
  by_contra halted
  obtain ⟨-, -, stopped⟩ := walker_idle hc halted
  exact Bool.false_ne_true (going.symm.trans (stopped k hk))

theorem setLook_consistent {o : Option Look} (allowed : ∀ k, o = some k → k.allowedIn s.ctrl.engine) :
    engineConsistent (s.setLook o) :=
  engineConsistent_of_walker hc rfl rfl fun halted ⟨poll, flags, _⟩ =>
    ⟨poll, flags, fun k hk => (Bool.not_eq_false _).mp fun going => halted (allowed k hk going)⟩

theorem setLook_none_consistent : engineConsistent (s.setLook none) := setLook_consistent hc fun _ h => nomatch h

/-- Outside RUNNING no lane's flag is set (R141). -/
theorem updLane_consistent (n : Lane) {f : LaneRecord → LaneRecord}
    (flag : s.ctrl.engine ≠ .running → (s.lane n).flag = false → (f (s.lane n)).flag = false) :
    engineConsistent (s.updLane n f) :=
  engineConsistent_of_walker hc rfl rfl fun halted ⟨poll, flags, look⟩ => by
    refine ⟨poll, fun i => ?_, look⟩
    show ((s.updLane n f).lane i).flag = false
    rw [updLane_lane_eq]
    split
    · exact flag halted (flags n)
    · exact flags i

theorem requestBusyLook_consistent (n : Lane) : engineConsistent (s.requestBusyLook n) := by
  unfold State.requestBusyLook
  split
  · rename_i busy
    exact updLane_consistent hc n fun halted _ => absurd busy.1 halted
  · exact hc

theorem endLook_consistent (k : Look) (st : LaneState) {again : Bool}
    (running : again = true → s.ctrl.engine = .running) : engineConsistent (s.endLook k st again) := by
  have ended := setLook_none_consistent (updLane_consistent hc k.lane
    (f := fun n => { n with state := st, flag := n.flag || again }) fun halted clear => by
      rw [Bool.or_eq_false_iff]
      exact ⟨clear, Bool.eq_false_iff.mpr fun set => halted (running set)⟩)
  unfold State.endLook
  dsimp only
  split
  · exact testStop_consistent ended
  · exact ended

theorem returnClaim_consistent (k : Look) : engineConsistent (s.returnClaim k) :=
  engineConsistent_of_view hc (returnClaim_view s k)

theorem lookFault_consistent (k : Look) : engineConsistent (s.lookFault k) :=
  endLook_consistent (returnClaim_consistent hc k) k _ nofun

theorem lookStopped_consistent (k : Look) : engineConsistent (s.lookStopped k) :=
  endLook_consistent (returnClaim_consistent hc k) k _ nofun

theorem moveAnchor_consistent (k : Look) : engineConsistent (s.moveAnchor k) :=
  updLane_consistent hc k.lane fun _ clear => clear

section

variable {k : Look} (allowed : k.allowedIn s.ctrl.engine)
include allowed

/-- The look of the state, with another stage, candidate or claim. -/
theorem setLook_going {j : Look} (same : j.stopped = k.stopped) : engineConsistent (s.setLook (some j)) :=
  setLook_consistent hc fun i hi going => by
    cases hi
    exact allowed (same.symm.trans going)

theorem candidateAt_consistent (a : Word) : engineConsistent (s.candidateAt k a) := by
  unfold State.candidateAt
  split
  · exact endLook_consistent hc k _ nofun
  · split <;> exact setLook_going hc allowed rfl

theorem passCandidate_consistent (counted : Bool) : engineConsistent (s.passCandidate k counted) := by
  have moved := moveAnchor_consistent hc k
  have same : (if counted then { k with moved := k.moved + 1 } else k).stopped = k.stopped := by
    cases counted <;> rfl
  unfold State.passCandidate
  generalize (if counted = true then ({ k with moved := k.moved + 1 } : Look) else k) = j at same ⊢
  dsimp only
  split
  · exact endLook_consistent moved j _ nofun
  · rename_i going
    have running : s.ctrl.engine = .running := allowed (by rw [← same]; exact (Bool.not_eq_true _).mp going)
    split
    · exact endLook_consistent moved j _ fun _ => running
    · exact candidateAt_consistent moved (fun _ => running) _

theorem refuseSheet_consistent (r : Reason) : engineConsistent (s.refuseSheet k r) :=
  setLook_going (k := k) (returnClaim_consistent hc k)
    (by rw [engine_of_view (returnClaim_view s k)]; exact allowed) rfl

theorem validateHeader_consistent (w : Word) : engineConsistent (s.validateHeader k w) := by
  unfold State.validateHeader
  split
  · exact refuseSheet_consistent hc allowed _
  · split
    · exact refuseSheet_consistent hc allowed _
    · exact setLook_going hc allowed rfl

theorem headerAnswered_consistent (ws : List Word) : engineConsistent (s.headerAnswered k ws) := by
  unfold State.headerAnswered
  dsimp only
  have onward : ({ k with next := wordAt ws 2 } : Look).allowedIn s.ctrl.engine := allowed
  split
  · exact passCandidate_consistent hc onward true
  · split
    · split
      · exact endLook_consistent hc _ _ nofun
      · exact validateHeader_consistent hc onward _
    · exact endLook_consistent hc _ _ nofun

theorem requestAnswered_consistent (ws : List Word) : engineConsistent (s.requestAnswered k ws) := by
  unfold State.requestAnswered
  dsimp only
  split
  · exact refuseSheet_consistent hc allowed _
  · exact setLook_going hc allowed rfl

theorem lookAnswered_consistent (ws : List Word) : engineConsistent (s.lookAnswered k ws) := by
  unfold State.lookAnswered
  split
  · exact candidateAt_consistent hc allowed _
  · exact candidateAt_consistent hc allowed _
  · exact headerAnswered_consistent hc allowed ws
  · exact requestAnswered_consistent hc allowed ws
  · exact setLook_going hc allowed rfl
  · exact setLook_going hc allowed rfl
  · exact passCandidate_consistent (s := s.raise _) (engineConsistent_of_view hc rfl) allowed true
  all_goals exact hc

theorem takeStation_consistent (q : StationRequest) (c : SetId) (role : Role) :
    engineConsistent (s.takeStation k q c role) := by
  unfold State.takeStation
  split
  · exact refuseSheet_consistent hc allowed _
  · split
    · exact refuseSheet_consistent hc allowed _
    · rename_i t g checked
      have taken := (takeRecord_view t (headOfLane k.lane) k.candidate q role (loopOfByte q.loop) g c).trans
        (sheetLoopCheck_view s checked)
      refine passCandidate_consistent (engineConsistent_of_view hc taken) ?_ false
      rw [engine_of_view taken]
      exact allowed

end

theorem walkerOkay_consistent (ws : List Word) : engineConsistent (s.walkerOkay ws) := by
  unfold State.walkerOkay
  split
  · exact hc
  · rename_i k hk
    split
    · exact lookStopped_consistent hc k
    · exact lookAnswered_consistent hc (look_allowed hc hk) ws

theorem walkerFault_consistent : engineConsistent s.walkerFault := by
  unfold State.walkerFault
  split
  · exact hc
  · exact lookFault_consistent hc _

theorem recordFault_consistent (r : Requester) (d : Direction) (a : Nat) (k : FaultKind) :
    engineConsistent (s.recordFault r d a k) := engineConsistent_of_view hc rfl

theorem presentWalker_consistent : engineConsistent s.presentWalker := by
  unfold State.presentWalker
  split
  · exact hc
  · rename_i k hk
    split
    · exact lookFault_consistent (recordFault_consistent hc _ _ _ _) k
    · split
      · exact hc
      · rename_i a _
        exact engineConsistent_of_view (setLook_going hc (look_allowed hc hk)
          (j := { k with placed := k.placed || decide (a.direction = .write) }) rfl) rfl

/-- STOP in RUNNING leaves the Sheet Walker idle: the flags and the poll timer by the entry into STOPPING, the look by
being marked or ended (R154). -/
theorem enterStopping_stopLook_consistent (running : s.ctrl.engine = .running) :
    engineConsistent s.enterStopping.stopLook := by
  have reason := faultReason_none hc (by rw [running]; exact nofun)
  have starting := starting_none hc (by rw [running]; exact nofun)
  have owner := scanOwner_ne hc (by rw [starting]; exact nofun)
  have entered := enterStopping_walker s
  have mode : modeConsistent s.enterStopping.ctrl s.enterStopping.tide.scanOwner := by
    rw [enterStopping_ctrl, (enterStopping_frame s).tide (by decide)]
    simp [modeConsistent, reason, starting, owner, root_aligned hc]
  have met := stopLook_met s.enterStopping
  rw [engineConsistent_iff, met.frame.ctrl (by decide), met.frame.tide (by decide)]
  refine ⟨mode, fun _ => ⟨?_, fun n => ?_, fun k hk => met.stopped hk⟩⟩
  · rw [met.poll, entered]
  · show (s.enterStopping.stopLook.lane n).flag = false
    rw [met.flags, enterStopping_lane]

theorem stopCommand_consistent : engineConsistent s.stopCommand := by
  by_cases running : s.ctrl.engine = .running
  · rw [stopCommand_running s running]
    exact testStop_consistent (enterStopping_stopLook_consistent hc running)
  · rw [stopCommand_idle s running]
    exact hc

/-! ### Records and orders that end (R141, R188) -/

theorem recordIdle_consistent (h : Head) : engineConsistent (s.recordIdle h) :=
  testStop_consistent (requestBusyLook_consistent (s := s.updRecord h _) (engineConsistent_of_view hc rfl) _)

theorem joinAnswered_consistent (h : Head) (a : DriftAnswer) : engineConsistent (s.joinAnswered h a) := by
  unfold State.joinAnswered
  split
  · exact recordIdle_consistent hc h
  · exact engineConsistent_of_view hc rfl

theorem occOkay_consistent : engineConsistent s.occOkay := by
  unfold State.occOkay
  split
  · exact hc
  · split <;> exact engineConsistent_of_view hc rfl
  · exact engineConsistent_of_view hc rfl
  · exact engineConsistent_of_view hc rfl
  · exact engineConsistent_of_view hc rfl
  · exact recordIdle_consistent (s := State.raise _ _)
      (engineConsistent_of_view hc (reportIfProvisional_view (s.setIssued none) _ _)) _

theorem occFault_consistent : engineConsistent s.occFault := by
  have failed (h : Head) : engineConsistent (((s.setIssued none).reportIfProvisional h .failure).recordIdle h) :=
    recordIdle_consistent (engineConsistent_of_view hc (reportIfProvisional_view (s.setIssued none) h .failure)) h
  unfold State.occFault
  split
  · exact hc
  · split <;> exact engineConsistent_of_view hc rfl
  · exact engineConsistent_of_view hc rfl
  · exact engineConsistent_of_view hc rfl
  · exact failed _
  · exact failed _

theorem endOrder_consistent : engineConsistent s.endOrder :=
  testStop_consistent (requestBusyLook_consistent (s := { s with order := {} }) (engineConsistent_of_view hc rfl) 4)

theorem orderOkay_consistent (ws : List Word) : engineConsistent (s.orderOkay ws) := by
  unfold State.orderOkay
  split
  · exact engineConsistent_of_view hc (view_of_frame (orderRead_frame s ws) (by decide) (by decide) (by decide))
  · exact engineConsistent_of_view hc (view_of_frame (loadAnswered_frame s ws) (by decide) (by decide) (by decide))
  · exact engineConsistent_of_view hc rfl
  · exact endOrder_consistent (s := s.raise .order) (engineConsistent_of_view hc rfl)
  all_goals exact hc

theorem orderFault_consistent (k : FaultKind) : engineConsistent (s.orderFault k) := by
  unfold State.orderFault
  split
  · exact engineConsistent_of_view hc rfl
  · split
    · exact hc
    · exact engineConsistent_of_view hc (view_of_frame (failLoad_frame s _ _) (by decide) (by decide) (by decide))
  · exact endOrder_consistent hc
  · exact endOrder_consistent hc
  all_goals exact hc

/-! ### The scan of a start-up (R110 to R114) -/

/-- A commit ends the scan, and at STARTING enters RUNNING (R112, R114). -/
theorem commitTable_consistent {p : PendingTable} {o : ScanOwner} (owner : s.tide.scanOwner = some o) :
    engineConsistent (s.commitTable p o) := by
  have ended : engineConsistent (s.changeTable (some (scannedTable p))).endScan :=
    engineConsistent_of_owner hc rfl rfl nofun
  cases o with
  | order => exact engineConsistent_of_view ended rfl
  | starting =>
    have engine : s.ctrl.engine = .starting := engine_starting hc (starting_scan hc owner)
    refine enterRunning_consistent ended ?_ nofun
    show s.ctrl.engine ≠ .faulted
    rw [engine]
    exact nofun

theorem commitIfReady_consistent : engineConsistent s.commitIfReady := by
  unfold State.commitIfReady
  split
  · split
    · exact commitTable_consistent hc (by assumption)
    · exact hc
  · exact hc

theorem failScan_consistent (r : Reason) : engineConsistent (s.failScan r) := by
  have ended : engineConsistent s.endScan := engineConsistent_of_owner hc rfl rfl nofun
  unfold State.failScan
  split
  · exact hc
  · exact engineConsistent_of_view ended rfl
  · rename_i owner
    have engine : s.ctrl.engine = .starting := engine_starting hc (starting_scan hc owner)
    refine enterFaulted_consistent (s := s.endScan.changeTable none) (engineConsistent_of_view ended rfl) nofun ?_ nofun
    show s.ctrl.engine ≠ .running
    rw [engine]
    exact nofun

theorem endLookup_consistent (v : Option Int) : engineConsistent (s.endLookup v) :=
  commitIfReady_consistent (s := (s.answerTide v).setLookup none)
    (engineConsistent_of_view hc (answerTide_view s v))

theorem beginLookup_consistent (t : Nat) : engineConsistent (s.beginLookup t) := by
  unfold State.beginLookup
  split
  · exact endLookup_consistent hc _
  · split
    · exact endLookup_consistent (s := s.setCache (touchCache _ _)) (engineConsistent_of_view hc rfl) _
    · split
      · exact endLookup_consistent hc _
      · exact engineConsistent_of_view hc rfl

theorem probeAnswered_consistent (k : Lookup) (g : Segment) : engineConsistent (s.probeAnswered k g) := by
  have searched (l : Option Lookup) : engineConsistent (s.setLookup l) := engineConsistent_of_view hc rfl
  unfold State.probeAnswered
  dsimp only
  split
  · split
    · exact endLookup_consistent hc _
    · exact searched _
  · split
    · split
      · exact endLookup_consistent hc _
      · exact searched _
    · exact searched _

theorem segmentAnswered_consistent (k : Lookup) (g : Segment) : engineConsistent (s.segmentAnswered k g) := by
  obtain ⟨cache, answer, ended⟩ := segmentAnswered_ends s k g
  rw [ended]
  exact endLookup_consistent (s := s.setCache cache) (engineConsistent_of_view hc rfl) answer

theorem scanAnswered_consistent (g : Segment) : engineConsistent (s.scanAnswered g) := by
  unfold State.scanAnswered
  split
  · exact hc
  · split
    · exact failScan_consistent hc _
    · exact commitIfReady_consistent (s := { s with tide := { s.tide with pendingTable := _ } })
        (engineConsistent_of_view hc rfl)

theorem tideOkay_consistent (ws : List Word) : engineConsistent (s.tideOkay ws) := by
  have freed : engineConsistent s.freeTideSlot := engineConsistent_of_view hc rfl
  unfold State.tideOkay
  split
  · exact hc
  · exact scanAnswered_consistent freed _
  · split
    · exact freed
    · split
      · exact probeAnswered_consistent freed _ _
      · exact segmentAnswered_consistent freed _ _

theorem tideFault_consistent (k : FaultKind) : engineConsistent (s.tideFault k) := by
  have freed : engineConsistent s.freeTideSlot := engineConsistent_of_view hc rfl
  unfold State.tideFault
  split
  · exact hc
  · exact endLookup_consistent freed _
  · exact failScan_consistent freed _

/-! ### The directory read (R187, R114) -/

/-- The load of a directory begins the scan phase of the start-up (R187). -/
theorem loadDirectory_consistent (reading : s.ctrl.starting = some .directory) (d : Directory) :
    engineConsistent (s.loadDirectory d) ∧ (s.loadDirectory d).ctrl.engine = .starting ∧
      (s.loadDirectory d).tide.scanOwner ≠ some .starting := by
  have engine := engine_starting hc reading
  have reason := faultReason_none hc (by rw [engine]; exact nofun)
  have owner := scanOwner_ne hc (by rw [reading]; exact nofun)
  obtain ⟨poll, flags, look⟩ := walker_idle hc (by rw [engine]; exact nofun)
  refine ⟨?_, (loadDirectory_engine s d).trans engine, by rw [loadDirectory_tide]; exact owner⟩
  rw [engineConsistent_iff, loadDirectory_ctrl, loadDirectory_tide, loadDirectory_walker]
  refine ⟨?_, fun _ => ⟨poll, flags, look⟩⟩
  simp [modeConsistent, reason, engine, owner, root_aligned hc]

theorem directoryAnswered_consistent (reading : s.ctrl.starting = some .directory) (ws : List Word) :
    engineConsistent (s.directoryAnswered ws) := by
  unfold State.directoryAnswered
  split
  · rename_i failed
    have engine := engine_starting hc reading
    exact enterFaulted_consistent hc (directoryFault_reason failed) (by rw [engine]; exact nofun)
      (scanOwner_ne hc (by rw [reading]; exact nofun))
  · obtain ⟨loaded, engine, owner⟩ := loadDirectory_consistent hc reading (parseDirectory ws)
    have scanning := loadDirectory_starting s (parseDirectory ws)
    generalize s.loadDirectory (parseDirectory ws) = v at loaded engine owner scanning
    unfold State.adoptTable
    split
    · refine enterRunning_consistent (s := v.changeTable none) (engineConsistent_of_view loaded rfl) ?_ owner
      show v.ctrl.engine ≠ .faulted
      rw [engine]
      exact nofun
    · rw [engineConsistent_iff] at loaded ⊢
      obtain ⟨⟨fault, start, -, root⟩, idle⟩ := loaded
      exact ⟨⟨fault, start, fun _ => scanning, root⟩, idle⟩

theorem controlOkay_consistent (ws : List Word) : engineConsistent (s.controlOkay ws) := by
  unfold State.controlOkay
  split
  · exact directoryAnswered_consistent hc (by assumption) ws
  · exact engineConsistent_of_view hc (refreshOkay_view s)
  · exact engineConsistent_of_view hc (refreshOkay_view s)

theorem controlFault_consistent : engineConsistent s.controlFault := by
  unfold State.controlFault
  split
  · rename_i reading
    exact enterFaulted_consistent hc nofun (by rw [engine_starting hc reading]; exact nofun)
      (scanOwner_ne hc (by rw [reading]; exact nofun))
  · exact engineConsistent_of_view hc (refreshFault_view s)
  · exact engineConsistent_of_view hc (refreshFault_view s)

/-! ### Accesses at the port (R174 to R180) -/

theorem requesterOkay_consistent (r : Requester) (ws : List Word) : engineConsistent (s.requesterOkay r ws) := by
  unfold State.requesterOkay
  split
  · exact walkerOkay_consistent hc ws
  · exact orderOkay_consistent hc ws
  · exact tideOkay_consistent hc ws
  · exact occOkay_consistent hc
  · exact engineConsistent_of_view hc (driftOkay_view s)
  · exact controlOkay_consistent hc ws

theorem portFault_consistent (r : Requester) (d : Direction) (a : Nat) (k : FaultKind) :
    engineConsistent (s.portFault r d a k) := by
  have recorded := recordFault_consistent hc r d a k
  unfold State.portFault State.requesterFault
  split
  · exact walkerFault_consistent recorded
  · exact orderFault_consistent recorded k
  · exact tideFault_consistent recorded k
  · exact occFault_consistent recorded
  · exact engineConsistent_of_view recorded
      (view_of_frame (driftFault_frame _) (by decide) (by decide) (by decide))
  · exact controlFault_consistent recorded

theorem formGrant_consistent (n : Fin 6) (x : Transfer) : engineConsistent (s.formGrant n x) := by
  have pointed (p : MemoryPort) : engineConsistent { s with port := p } := engineConsistent_of_view hc rfl
  unfold State.formGrant
  dsimp only
  split
  · exact pointed _
  · exact portFault_consistent (pointed _) _ _ _ _

theorem grantOkay_consistent (g : Grant) (data : List Word) : engineConsistent (s.grantOkay g data) := by
  have granted (p : MemoryPort) : engineConsistent { s with port := p } := engineConsistent_of_view hc rfl
  unfold State.grantOkay
  dsimp only
  split
  · exact granted _
  · split
    · exact requesterOkay_consistent (s := (s.setGrant none).setSlot g.requester none) (granted _) _ _
    · exact granted _

theorem grantRetry_consistent (g : Grant) : engineConsistent (s.grantRetry g) := by
  have granted (x : Option Grant) : engineConsistent (s.setGrant x) := engineConsistent_of_view hc rfl
  unfold State.grantRetry
  split
  · exact granted _
  · exact portFault_consistent (granted none) _ _ _ _

theorem presentNext_consistent (r : Requester) : engineConsistent (s.presentNext r) := by
  have presented (q : Requester) (a : Access) : engineConsistent (s.present q a) := engineConsistent_of_view hc rfl
  unfold State.presentNext
  split
  · exact presentWalker_consistent hc
  · split
    · exact hc
    · exact presented _ _
  · unfold State.presentTide
    split
    · exact hc
    · exact engineConsistent_of_view hc rfl
  · exact engineConsistent_of_view hc (view_of_frame (presentOccupation_frame s) (by decide) (by decide) (by decide))
  · split
    · exact hc
    · exact presented _ _
  · split
    · exact engineConsistent_of_view hc (view_of_frame (presentDirectory_frame s) (by decide) (by decide) (by decide))
    · unfold State.presentRefresh
      split
      · exact presented _ _
      · exact hc

end

/-! ### Every command -/

/-- Both resets leave a HALTED engine, no start-up and an idle walker; an engine reset keeps ROOT (R184, R189). -/
theorem engineConsistent_of_reset {t : State} (mode : t.ctrl.mode = (.halted, .none, none, t.ctrl.root))
    (root : t.ctrl.root.toNat % 8 = 0) (owner : t.tide.scanOwner = none) (walker : t.walker = {}) :
    engineConsistent t := by
  simp only [ControlPort.mode, Prod.mk.injEq] at mode
  obtain ⟨engine, reason, starting, -⟩ := mode
  rw [engineConsistent_iff, owner, walker]
  exact ⟨by simp [modeConsistent, engine, reason, starting, root], fun _ => ⟨rfl, fun n => congrArg LaneRecord.flag
    (Vector.getElem_replicate n.isLt), fun _ h => nomatch (show none = some _ from h)⟩⟩

/-- A word written to ROOT has its three lowest bits cleared (R184). -/
theorem rootOf_aligned (w : Word) : (rootOf w).toNat % 8 = 0 := by
  show (w &&& 0xFFFFFFF8).toNat % 2 ^ 3 = 0
  rw [BitVec.toNat_and, Nat.and_mod_two_pow]
  exact Nat.and_zero _

section

variable {s : State} (hc : engineConsistent s)
include hc

/-- The poll timer is armed in RUNNING alone (R141). -/
theorem pollExpiry_consistent (due : s.due s.walker.pollTimer = true) :
    engineConsistent ({ s with walker := { s.walker with pollTimer := s.pollExpiry } } : State).setUnheldFlags := by
  refine engineConsistent_of_walker hc rfl rfl fun halted idle => ?_
  obtain ⟨disarmed, -⟩ := idle
  rw [disarmed] at due
  exact nomatch due

/-- A look begins on a flagged lane, and so in RUNNING (R141, R142). -/
theorem lookBegin_consistent : answersOnly engineConsistent (exec .lookBegin s) := by
  simp only [exec, execLookBegin]
  split
  · rename_i n free chosen
    have flagged : (s.lane n).flag = true := by simpa using List.find?_some chosen
    have unflagged := updLane_consistent hc n (f := fun r => { r with flag := false }) fun _ _ => rfl
    refine answersOnly_next (engineConsistent_of_walker unflagged rfl rfl fun halted _ => ?_)
    obtain ⟨-, clear, -⟩ := walker_idle hc halted
    exact absurd flagged (by rw [State.lane, clear n]; exact Bool.false_ne_true)
  · exact answersOnly_next hc

/-- Every command keeps the invariant: most leave what it reads, and each that does not has its lemma above. -/
theorem exec_consistent (c : Instr) : answersOnly engineConsistent (exec c s) := by
  have idle : answersOnly engineConsistent (.next s) := answersOnly_next hc
  have same {t : State} (h : t.engineView = s.engineView) : answersOnly engineConsistent (.next t) :=
    answersOnly_next (engineConsistent_of_view hc h)
  by_cases touches : Block.ctrl ∈ mayChange c ∨ Block.tide ∈ mayChange c ∨ Block.walker ∈ mayChange c
  · cases c with
    | powerOnReset => exact answersOnly_next (engineConsistent_of_reset rfl rfl rfl rfl)
    | reset w =>
      have root : s.ctrl.root.toNat % 8 = 0 := root_aligned hc
      exact answersOnly_next (engineConsistent_of_reset rfl root rfl rfl)
    | run w => exact answersOnly_next (runCommand_consistent (s := s.loadConfig w) (engineConsistent_of_view hc rfl))
    | stop w => exact answersOnly_next (stopCommand_consistent (s := s.loadConfig w) (engineConsistent_of_view hc rfl))
    | attentionConfiguration w => exact same rfl
    | rootWrite w =>
      refine answersOnly_next ?_
      rw [engineConsistent_iff] at hc ⊢
      obtain ⟨⟨fault, start, scan, -⟩, walker⟩ := hc
      exact ⟨⟨fault, start, scan, rootOf_aligned w⟩, walker⟩
    | notice w =>
      simp only [exec, execNotice]
      split
      · rename_i running
        exact answersOnly_next (engineConsistent_of_walker hc rfl rfl fun halted => absurd running halted)
      · exact idle
    | eventsClear w => exact same rfl
    | registerWrite r w => cases r <;> exact same rfl
    | eventArrival e =>
      simp only [exec, execEventArrival]
      split
      · unfold latchEvent
        split <;> exact same rfl
      · exact idle
    | accessPresent r =>
      simp only [exec, execAccessPresent]
      split
      · exact answersOnly_next (presentNext_consistent hc r)
      · exact idle
    | grant =>
      simp only [exec, execGrant]
      split
      · split
        · exact idle
        · split
          · exact idle
          · exact answersOnly_next (formGrant_consistent hc _ _)
      · exact idle
    | busAnswer a =>
      simp only [exec, execBusAnswer]
      split
      · exact idle
      · split
        · exact same (view_of_frame (discardedAnswer_frame s) (by decide) (by decide) (by decide))
        · split
          · split
            · exact answersOnly_next (grantOkay_consistent hc _ _)
            · exact idle
          · exact answersOnly_next (grantRetry_consistent hc _)
          · exact answersOnly_next
              (portFault_consistent (s := s.setGrant none) (engineConsistent_of_view hc rfl) _ _ _ _)
    | statusTimerExpiry =>
      simp only [exec, execStatusTimerExpiry]
      split
      · exact same (requestRefresh_view _)
      · exact idle
    | headerComplete h cells =>
      simp only [exec, execHeaderComplete]
      split
      · exact same (collect_view s h cells _ fun bs t => checkHeader_view t h bs)
      · exact idle
    | frameEnd h cells =>
      simp only [exec, execFrameEnd]
      split
      · exact same (collect_view s h cells _ fun bs t => checkFrame_view t h bs)
      · exact idle
    | timingLoss h cell =>
      simp only [exec, execTimingLoss]
      split
      · split
        · exact idle
        · exact same (badFrame_view (s.updLink h lossLink) h)
      · exact idle
    | silenceExpiry h =>
      simp only [exec, execSilenceExpiry]
      split
      · exact same (linkDown_view s h true)
      · exact idle
    | headResetLinkPart =>
      simp only [exec, execHeadResetLinkPart]
      split
      · refine same ((resetPart_view _ _ _ _).trans ?_)
        split
        · exact linkDown_view s _ _
        · rfl
      · exact idle
    | judgingEvent =>
      simp only [exec, execJudgingEvent]
      split
      · exact idle
      · split
        · exact same (judgeNext_view s _ _)
        · exact idle
    | tideLookup =>
      simp only [exec, execTideLookup]
      split
      · split
        · exact answersOnly_next (beginLookup_consistent hc _)
        all_goals exact idle
      · exact idle
    | headResetJudgePart =>
      simp only [exec, execHeadResetJudgePart]
      split
      · split
        · have cleared := judgeClear_view s (headOfArg s.order.arg0)
          have abandoned := abandonFrame_view (State.updHead (headOfArg s.order.arg0) forgottenHead
            (s.judgeClear (headOfArg s.order.arg0))) (headOfArg s.order.arg0)
          exact same ((resetPart_view _ _ _ _).trans (abandoned.trans cleared))
        · exact idle
      · exact idle
    | linkDownAtCorrection h =>
      simp only [exec, execLinkDownAtCorrection]
      split
      · exact same (judgeClear_view (s.updDownMsgs h (· - 1)) h)
      · exact idle
    | join h =>
      simp only [exec, execJoin]
      split
      · exact answersOnly_next (joinAnswered_consistent (engineConsistent_of_view hc (joinOf_view s h _)) h _)
      · exact idle
    | spanExpiry l =>
      simp only [exec, execSpanExpiry]
      split
      · exact same (detachLoop_view s l _ _)
      · exact idle
    | pollExpiry =>
      simp only [exec, execPollExpiry]
      split
      · exact answersOnly_next (pollExpiry_consistent hc (by assumption))
      · exact idle
    | lookBegin => exact lookBegin_consistent hc
    | calibrationCheck =>
      simp only [exec, execCalibrationCheck]
      split
      · exact idle
      · rename_i k hk
        have allowed := look_allowed hc hk
        split
        · split
          · refine answersOnly_next (setLook_going (k := k) (s := s.updCalSet _ _) ?_ allowed rfl)
            exact engineConsistent_of_view hc rfl
          · exact answersOnly_next (refuseSheet_consistent hc allowed _)
        · exact idle
    | take =>
      simp only [exec, execTake]
      split
      · exact idle
      · rename_i k hk
        split
        · split
          · exact idle
          · exact answersOnly_next (takeStation_consistent hc (look_allowed hc hk) _ _ _)
        · exact idle
    | orderTake =>
      simp only [exec, execOrderTake]
      split
      · exact idle
      · rename_i k hk
        split
        · have ordered : engineConsistent { s with order := { sheet := some k.candidate, stage := .reading } } :=
            engineConsistent_of_view hc rfl
          exact answersOnly_next (passCandidate_consistent ordered (look_allowed hc hk) false)
        · exact idle
    | setClock =>
      simp only [exec, execSetClock]
      split
      · split <;> exact same rfl
      · exact idle
    | setHead =>
      simp only [exec, execSetHead]
      split
      · split
        · exact same (setHead_view s _ _)
        · exact same rfl
      · exact idle
    | swapTide =>
      simp only [exec, execSwapTide]
      split
      · split
        · exact same rfl
        · exact answersOnly_next (engineConsistent_of_owner hc rfl rfl nofun)
      · exact idle
    | abortLoop =>
      simp only [exec, execAbortLoop]
      split
      · split
        · exact same (detachLoop_view s _ _ _)
        · exact same rfl
      · exact idle
    | _ => simp [mayChange] at touches
  · rw [not_or, not_or] at touches
    obtain ⟨ctrl, tide, walker⟩ := touches
    exact fun t e => engineConsistent_of_view hc (view_of_frame (frame_of_exec e) ctrl tide walker)

end

/-- Settles O46: a step is a command, which keeps the invariant, or one millisecond, which leaves what it reads. -/
theorem engineStaysConsistent : Obligations.EngineStaysConsistent := by
  intro s t hc h
  rcases step_cases h with ⟨_, rfl⟩ | ⟨c, rest, _, taken⟩
  · exact engineConsistent_of_view hc rfl
  · exact exec_consistent (s := { s with pending := rest }) (engineConsistent_of_view hc rfl) c t taken

end Sys2Proof.Machine
end

-- ==== Proofs of the family "sheets and lanes": RUN and STOP (O5, O6) ====
section
/-! SUPPORT. The port at entry into STARTING, and STOP in RUNNING as one state; the statements are read off these. -/

namespace Sys2Proof.Machine

/-! ### The port at entry into STARTING (R175, R187) -/

/-- The Memory Port at its start-up values, with `x` as the Control Port's access; a grant of the Control Port in flight
will be discarded (R175, R187). -/
def startUpPort (x : Option Transfer) (p : MemoryPort) : MemoryPort :=
  { p with sheetWindow := none, tableWindow := none, retryLimit := Config.startRetryLimit,
           grantSize := Config.startGrantSize, grant := p.grant.map discardControlGrant
           slots := p.slots.set Requester.controlPort.number x }

theorem startUpPort_slot (x : Option Transfer) (p : MemoryPort) {r : Requester} (n : r ≠ .controlPort) :
    (startUpPort x p).slots[r.number] = p.slots[r.number] :=
  Vector.getElem_set_ne Requester.controlPort.number.isLt r.number.isLt fun e => n (requester_number_inj (Fin.ext e.symm))

theorem startUpPort_slot_same (x : Option Transfer) (p : MemoryPort) :
    (startUpPort x p).slots[Requester.controlPort.number] = x := Vector.getElem_set_self _

section

variable {s t : State}

/-- A grant of the Control Port that was in flight holds the directory read back; no other grant does (R187). -/
theorem staleControlGrant_discarded (grant : t.port.grant = s.port.grant.map discardControlGrant) :
    ((∃ g, s.port.grant = some g ∧ g.requester = .controlPort) → t.staleControlGrant = true) ∧
    ((∀ g, s.port.grant = some g → g.requester ≠ .controlPort) → t.staleControlGrant = false) := by
  unfold State.staleControlGrant
  rw [grant]
  cases hg : s.port.grant with
  | none => exact ⟨fun ⟨_, h, _⟩ => (nomatch h), fun _ => rfl⟩
  | some g =>
    refine ⟨fun ⟨x, hx, own⟩ => ?_, fun other => ?_⟩
    · cases hx
      simp [discardControlGrant, own]
    · simp [discardControlGrant, other g rfl]

/-- The directory read as the Control Port presents it (R187). -/
def directoryRead (root : Word) : Transfer := ⟨readAccess .none root.toNat 18, 0, []⟩

/-- A start-up whose port stands at its start-up values presents its directory read, unless it must wait (R187). -/
theorem presentDirectory_startUp (starting : t.ctrl.starting = some .directory)
    (directory : t.ctrl.directory = s.ctrl.root) (port : t.port = startUpPort none s.port) :
    ∃ x, t.presentDirectory.port = startUpPort x s.port ∧
      ((∃ g, s.port.grant = some g ∧ g.requester = .controlPort) → x = none) ∧
      ((∀ g, s.port.grant = some g → g.requester ≠ .controlPort) → x = some (directoryRead s.ctrl.root)) := by
  have free : t.slot .controlPort = none := by
    unfold State.slot
    rw [port]
    exact startUpPort_slot_same _ _
  obtain ⟨stale, fresh⟩ := staleControlGrant_discarded (s := s) (t := t) (by rw [port]; rfl)
  unfold State.presentDirectory
  by_cases own : ∃ g, s.port.grant = some g ∧ g.requester = .controlPort
  · rw [if_neg (by simp [stale own])]
    exact ⟨none, port, fun _ => rfl, fun other => absurd own fun ⟨g, hg, h⟩ => other g hg h⟩
  · rw [if_pos ⟨starting, free, fresh fun g hg h => own ⟨g, hg, h⟩⟩, directory]
    refine ⟨some (directoryRead s.ctrl.root), ?_, fun h => absurd h own, fun _ => rfl⟩
    unfold State.present State.setSlot
    rw [port]
    unfold startUpPort
    simp only [Vector.set_set]
    rfl

theorem enterStarting_port (s : State) : ∃ x, s.enterStarting.port = startUpPort x s.port ∧
    ((∃ g, s.port.grant = some g ∧ g.requester = .controlPort) → x = none) ∧
    ((∀ g, s.port.grant = some g → g.requester ≠ .controlPort) → x = some (directoryRead s.ctrl.root)) := by
  have same : s.abandonRefresh.port = s.port := (abandonRefresh_frame s).port (by decide)
  have root : s.abandonRefresh.ctrl.root = s.ctrl.root := by rw [abandonRefresh_ctrl]
  unfold State.enterStarting
  dsimp only
  refine presentDirectory_startUp ?_ ?_ ?_
  · rw [setEngine_ctrl, refreshRequested_starting]
    rfl
  · rw [setEngine_ctrl, refreshRequested_unaddressed rfl]
    exact root
  · rw [(setEngine_frame _ _).port (by decide), ← same]
    rfl

/-! ### RUN (R186, R187) -/

theorem runCommand_starts (engine : s.ctrl.engine = .halted ∨ s.ctrl.engine = .faulted) :
    s.runCommand = s.enterStarting := by
  unfold State.runCommand
  rcases engine with e | e <;> rw [e]

theorem runCommand_stopped (stopped : s.ctrl.engine = .stopped) : s.runCommand = s.enterRunning := by
  unfold State.runCommand
  rw [stopped]

theorem runCommand_none (engine : s.ctrl.engine = .starting ∨ s.ctrl.engine = .running ∨ s.ctrl.engine = .stopping) :
    s.runCommand = s := by
  unfold State.runCommand
  rcases engine with e | e | e <;> rw [e]

end

/-- Settles O5: RUN in HALTED and FAULTED, in STOPPED, and in the other states. -/
theorem runByEngineState : Obligations.RunByEngineState := by
  intro w s _
  have loaded := loadConfig_frame s w
  have taken : exec (.run w) s = .next (s.loadConfig w).runCommand := rfl
  refine ⟨fun engine => ?_, fun stopped => ?_, fun engine => ?_⟩
  · rw [runCommand_starts (s := s.loadConfig w) engine] at taken
    have ctrl := enterStarting_ctrl (s.loadConfig w)
    obtain ⟨x, port, own, other⟩ := enterStarting_port (s.loadConfig w)
    have frame := loaded.andThen (enterStarting_frame (s.loadConfig w)) (cs := [.port, .ctrl]) (by decide)
    have slot (r : Requester) : (s.loadConfig w).enterStarting.slot r = (startUpPort x s.port).slots[r.number] :=
      congrArg (fun p : MemoryPort => p.slots[r.number]) port
    refine ⟨_, taken, ?_⟩
    rw [slot, startUpPort_slot_same, ctrl, port]
    exact ⟨rfl, rfl, rfl, rfl, rfl, rfl, rfl, rfl, rfl, rfl, rfl, rfl, rfl, rfl, rfl, rfl, rfl, rfl, rfl, rfl, rfl, rfl,
      rfl, own, other, fun r n => (slot r).trans (startUpPort_slot x s.port n), frame⟩
  · rw [runCommand_stopped (s := s.loadConfig w) stopped] at taken
    refine ⟨_, taken, ?_, enterRunning_lane (s.loadConfig w), ?_, ?_,
      loaded.andThen (enterRunning_frame _) (by decide)⟩
    · rw [enterRunning_ctrl, refreshRequested_engine]
    · rw [enterRunning_walker]
      rfl
    · rw [enterRunning_ctrl, refreshRequested_raised]
      rfl
  · rw [runCommand_none (s := s.loadConfig w) engine] at taken
    exact taken

/-! ### STOP in RUNNING (R154, R186, R188) -/

/-- The stop condition as a STOP in RUNNING finds it: a look counts where it has placed a write (R188, R154). -/
def stopReady (s : State) : Prop :=
  (∀ h, (s.record h).state = .idle) ∧ s.order.stage = .none ∧ ∀ k, s.walker.look = some k → k.placed = false

section

variable (s : State)

theorem enterStopping_look : s.enterStopping.walker.look = s.walker.look := by rw [enterStopping_walker]

theorem stopHolds_stopLook : stopHolds s.enterStopping.stopLook ↔ stopReady s := by
  have met := stopLook_met s.enterStopping
  have frame := (enterStopping_frame s).andThen met.frame (cs := [.walker, .ctrl, .cal]) (by decide)
  have record (h : Head) : s.enterStopping.stopLook.record h = s.record h :=
    congrArg (fun o : OccupationController => o.records[h]) (frame.occ (by decide))
  unfold stopHolds stopReady
  simp only [record, frame.order (by decide), met.carried_iff, enterStopping_look]

/-- ENGINE is raised for the change into STOPPING, and again where the stop condition holds already (R186, R188). -/
theorem testStop_enterStopping : (stopReady s → s.enterStopping.stopLook.testStop.ctrl.engine = .stopped ∧
      s.enterStopping.stopLook.testStop.ctrl.raised = s.ctrl.raised ++ [.engine, .engine]) ∧
    (¬ stopReady s → s.enterStopping.stopLook.testStop.ctrl.engine = .stopping ∧
      s.enterStopping.stopLook.testStop.ctrl.raised = s.ctrl.raised ++ [.engine]) := by
  have ctrl := ((stopLook_met s.enterStopping).frame.ctrl (by decide)).trans (enterStopping_ctrl s)
  have stopping : s.enterStopping.stopLook.ctrl.engine = .stopping := by rw [ctrl, refreshRequested_engine]
  have raised : s.enterStopping.stopLook.ctrl.raised = s.ctrl.raised ++ [.engine] := by
    rw [ctrl, refreshRequested_raised]
  rw [← stopHolds_stopLook]
  refine ⟨fun stop => ?_, fun unmet => ?_⟩
  · rw [testStop_stops _ stopping stop, setEngine_ctrl, refreshRequested_engine, refreshRequested_raised, raised,
      List.append_assoc]
    exact ⟨rfl, rfl⟩
  · rw [testStop_waits _ unmet]
    exact ⟨stopping, raised⟩

end

/-- Settles O6: STOP in RUNNING, with the look under way and the stop condition as they are; and STOP elsewhere. -/
theorem stopFromRunning : Obligations.StopFromRunning := by
  intro w s _
  have loaded := loadConfig_frame s w
  have taken : exec (.stop w) s = .next (s.loadConfig w).stopCommand := rfl
  refine ⟨fun running => ?_, fun idle => ?_⟩
  · rw [stopCommand_running (s.loadConfig w) running] at taken
    obtain ⟨stops, waits⟩ := testStop_enterStopping (s.loadConfig w)
    have entered := enterStopping_frame (s.loadConfig w)
    have lane := enterStopping_lane (s.loadConfig w)
    have walker := enterStopping_walker (s.loadConfig w)
    have met := stopLook_met (s.loadConfig w).enterStopping
    generalize (s.loadConfig w).enterStopping = v at taken stops waits entered lane walker met
    have tested := testStop_frame v.stopLook
    have same : v.stopLook.testStop.walker = v.stopLook.walker := tested.walker (by decide)
    have look : v.walker.look = s.walker.look := by rw [walker]; rfl
    have slot : v.slot .sheetWalker = s.slot .sheetWalker :=
      congrArg (fun p : MemoryPort => p.slots[Requester.sheetWalker.number]) (entered.port (by decide))
    have lanes (n : Lane) : v.stopLook.testStop.lane n = v.stopLook.lane n :=
      congrArg (fun x : SheetWalker => x.lanes[n]) same
    obtain ⟨frame, poll, flags, free, marked, ended⟩ := met
    rw [look] at free marked ended
    rw [slot] at marked ended
    refine ⟨_, taken, fun n => ?_, ?_, stops, waits, ?_, fun k hk => ⟨?_, fun ⟨unplaced, idle⟩ => ?_⟩,
      ((loaded.andThen entered (fun _ m => m)).andThen frame (fun _ m => m)).andThen tested (by decide)⟩
    · rw [lanes, flags, lane]
    · rw [same, poll, walker]
    · rw [same]
      exact free
    · rw [same]
      exact marked k hk
    · rw [lanes, same]
      exact ended k hk unplaced idle
  · rw [stopCommand_idle (s.loadConfig w) idle] at taken
    exact taken

end Sys2Proof.Machine
end

-- ==== Proofs of the family "sheets and lanes": the poll timer, and the lane of the next look (O43) ====
section
/-! SUPPORT. The flags that the poll timer sets, and the search for the lane of the next look in its order. -/

namespace Sys2Proof.Machine

section

variable {s : State}

/-! ### The poll timer (R141) -/

theorem exec_pollExpiry (due : s.due s.walker.pollTimer = true) : exec .pollExpiry s =
    .next ({ s with walker := { s.walker with pollTimer := s.pollExpiry } } : State).setUnheldFlags := by
  simp only [exec, execPollExpiry, due, if_true]

theorem setUnheldFlags_lane (n : Lane) : s.setUnheldFlags.lane n =
    if (s.lane n).state = .held then s.lane n else { s.lane n with flag := true } := Vector.getElem_map _ _

/-! ### The lane of the next look (R142) -/

/-- The walker searches the lanes round, from the one after the lane served last. -/
theorem laneOrder_eq (last : Lane) : laneOrder last = (List.finRange 5).map (last + 1 + ·) := by
  revert last
  decide

/-- The first flagged lane of that order is chosen. -/
theorem nextLane_first {n j : Lane} (place : n = s.walker.lastServed + 1 + j) (flagged : (s.lane n).flag = true)
    (before : ∀ i, i < j → (s.lane (s.walker.lastServed + 1 + i)).flag = false) : s.nextLane = some n := by
  subst place
  unfold State.nextLane
  rw [laneOrder_eq, List.find?_map, Option.map_eq_some_iff]
  refine ⟨j, ?_, rfl⟩
  rw [List.find?_eq_some_iff_append]
  refine ⟨flagged, (List.finRange 5).take j, (List.finRange 5).drop (j + 1), ?_, fun i earlier => ?_⟩
  · clear flagged before
    revert j
    decide
  · have lt : i < j := by
      clear flagged before
      revert i j
      decide
    simp only [Function.comp, before i lt, Bool.not_false]

theorem exec_lookBegin {n : Lane} (free : s.walker.look = none) (next : s.nextLane = some n) :
    exec .lookBegin s = .next { s with walker := { s.walker with
      lanes := s.walker.lanes.set n { s.lane n with flag := false }, lastServed := n
      look := some (newLook n (s.lane n)) } } := by
  simp only [exec, execLookBegin, free, next]
  rfl

/-- A look begins at the lane's root, or, where the lane has an anchor, at its next-pointer (R143). -/
theorem newLook_stage (n : Lane) (r : LaneRecord) : (r.anchor = none → (newLook n r).stage = .rootRead) ∧
    (r.anchor ≠ none → (newLook n r).stage = .nextRead) := ⟨fun h => if_pos h, fun h => if_neg h⟩

end

/-- Settles O43: the expiry of the poll timer, and the look that begins on the first flagged lane. -/
theorem pollsAndLooksBegin : Obligations.PollsAndLooksBegin := by
  intro s
  refine ⟨fun x timer reached => ?_, fun n j free place flagged before => ?_⟩
  · have taken := exec_pollExpiry (s := s) (by rw [timer]; exact due_of_le reached)
    have lane (n : Lane) := setUnheldFlags_lane (s := { s with walker := { s.walker with pollTimer := s.pollExpiry } }) n
    exact ⟨_, taken, fun n unheld => (lane n).trans (if_neg unheld), fun n held => (lane n).trans (if_pos held), rfl, rfl,
      frame_walker s _⟩
  · have taken := exec_lookBegin free (nextLane_first place flagged before)
    obtain ⟨root, anchor⟩ := newLook_stage n (s.lane n)
    exact ⟨_, _, taken, rfl, rfl, rfl, rfl, rfl, rfl, rfl, root, anchor,
      updLane_lane_same s n fun r => { r with flag := false },
      fun i other => updLane_lane_ne s n i (fun r => { r with flag := false }) other, rfl, rfl, frame_walker s _⟩

end Sys2Proof.Machine
end

-- ==== Proofs of the family "sheets and lanes": a candidate found, passed or left (R142, R143, R154) ====
section
/-! SUPPORT. What the Sheet Walker makes of a candidate address and of a candidate that it passes, one equation for each case;
the answers of its reads and writes are read off these. -/

namespace Sys2Proof.Machine

section

variable {s : State} {k : Look}

/-! ### A candidate address (R143) -/

theorem candidateAt_zero : s.candidateAt k 0 =
    s.endLook k (if (s.lane k.lane).anchor = none then .unrooted else .waiting) false := if_pos rfl

theorem candidateAt_misaligned {a : Word} (misaligned : a.toNat % 8 ≠ 0) : s.candidateAt k a =
    s.setLook (some { k with stage := .misaligned a, placed := false, claim := none, request := none }) := by
  have found : a ≠ 0 := fun e => misaligned (by rw [e]; rfl)
  unfold State.candidateAt
  rw [if_neg found, if_pos misaligned]

theorem candidateAt_aligned {a : Word} (found : a ≠ 0) (aligned : a.toNat % 8 = 0) : s.candidateAt k a =
    s.setLook (some { k with stage := .headerRead, candidate := a, placed := false, claim := none,
                             request := none }) := by
  unfold State.candidateAt
  rw [if_neg found, if_neg (not_not.mpr aligned)]

/-! ### A voided or refused sheet passed (R142, R151) -/

/-- The look with one more sheet passed (R142). -/
def Look.counted (k : Look) : Look := { k with moved := k.moved + 1 }

theorem passCandidate_stopped (stopped : k.stopped = true) : s.passCandidate k true =
    (s.moveAnchor k).endLook k.counted .waiting false := by
  unfold State.passCandidate
  exact if_pos stopped

section

variable (going : k.stopped = false)
include going

theorem passCandidate_limit (limit : 64 ≤ k.moved + 1) : s.passCandidate k true =
    (s.moveAnchor k).endLook k.counted .waiting true := by
  unfold State.passCandidate
  exact (if_neg (by rw [if_pos rfl]; exact ne_true_of_eq_false going)).trans (if_pos ⟨rfl, limit⟩)

theorem passCandidate_below (below : k.moved + 1 < 64) : s.passCandidate k true =
    (s.moveAnchor k).candidateAt k.counted k.next := by
  unfold State.passCandidate
  exact (if_neg (by rw [if_pos rfl]; exact ne_true_of_eq_false going)).trans
    (if_neg fun h => Nat.not_le_of_lt below h.2)

/-! ### A look that no STOP has met leaves the Control Port (R154, R188) -/

theorem endLook_ctrl (st : LaneState) (again : Bool) : (s.endLook k st again).ctrl = s.ctrl := by
  rw [endLook_untested (.inl going)]
  rfl

theorem candidateAt_ctrl (a : Word) : (s.candidateAt k a).ctrl = s.ctrl := by
  unfold State.candidateAt
  split
  · exact endLook_ctrl going _ _
  · split <;> rfl

theorem passCandidate_ctrl : (s.passCandidate k true).ctrl = s.ctrl := by
  have counted : k.counted.stopped = false := going
  by_cases limit : 64 ≤ k.moved + 1
  · rw [passCandidate_limit going limit]
    exact endLook_ctrl (s := s.moveAnchor k) counted _ _
  · rw [passCandidate_below going (Nat.lt_of_not_le limit)]
    exact candidateAt_ctrl (s := s.moveAnchor k) counted _

end

/-! ### The lane of a candidate that is passed (R156) -/

/-- A candidate address leaves an anchored lane WAITING on its anchor. -/
theorem candidateAt_lane {x : LaneRecord} (lane : s.lane k.lane = x) (anchored : x.anchor ≠ none)
    (waiting : x.state = .waiting) (a : Word) : (s.candidateAt k a).lane k.lane = x := by
  unfold State.candidateAt
  split
  · rw [endLook_lane, lane, if_neg anchored, Bool.or_false, ← waiting]
  · split <;> exact lane

theorem passCandidate_lane : ((s.passCandidate k true).lane k.lane).anchor = some k.candidate ∧
    ((s.passCandidate k true).lane k.lane).state = .waiting := by
  have moved : (s.moveAnchor k).lane k.counted.lane = { s.lane k.lane with anchor := some k.candidate, state := .waiting } :=
    moveAnchor_lane
  have ended (again : Bool) := endLook_lane (s.moveAnchor k) k.counted .waiting again
  rw [moved] at ended
  by_cases stopped : k.stopped = true
  · rw [passCandidate_stopped stopped]
    exact ⟨congrArg LaneRecord.anchor (ended false), congrArg LaneRecord.state (ended false)⟩
  · rw [Bool.not_eq_true] at stopped
    by_cases limit : 64 ≤ k.moved + 1
    · rw [passCandidate_limit stopped limit]
      exact ⟨congrArg LaneRecord.anchor (ended true), congrArg LaneRecord.state (ended true)⟩
    · rw [passCandidate_below stopped (Nat.lt_of_not_le limit)]
      have lane := candidateAt_lane moved nofun rfl k.next
      exact ⟨congrArg LaneRecord.anchor lane, congrArg LaneRecord.state lane⟩

end

/-! ### An answer to the walker (R154) -/

section

variable {s : State} {k : Look} {data ws : List Word} (done : completes .sheetWalker data ws s)
  (hk : s.walker.look = some k)
include done hk

/-- The look goes on with the answer, unless a STOP has met it with no write placed. -/
theorem exec_lookAnswered (going : k.stopped = false ∨ k.placed = true) : exec (.busAnswer (.okay data)) s =
    .next ((s.freed .sheetWalker).lookAnswered k ws) := by
  have look : (s.freed .sheetWalker).walker.look = some k := hk
  rw [exec_okay_of_completes done, State.requesterOkay, State.walkerOkay, look]
  exact congrArg _ (if_neg (by rcases going with e | e <;> simp [e]))

theorem exec_lookStopped (stopped : k.stopped = true) (unplaced : k.placed = false) :
    exec (.busAnswer (.okay data)) s = .next ((s.freed .sheetWalker).lookStopped k) := by
  have look : (s.freed .sheetWalker).walker.look = some k := hk
  rw [exec_okay_of_completes done, State.requesterOkay, State.walkerOkay, look]
  exact congrArg _ (if_pos (by simp [stopped, unplaced]))

end

end Sys2Proof.Machine
end

-- ==== Proofs of the family "sheets and lanes": the header and the request part of a candidate (O54) ====
section
/-! SUPPORT. The owner of a candidate, the checks of its header and of its request part, and what each answer of a read makes
of the look. -/

namespace Sys2Proof.Machine

/-! ### The lane and its owner (R145, R147) -/

theorem isControlLane_iff {n : Lane} : isControlLane n = true ↔ n = 4 := decide_eq_true_iff

/-- A lane is the control lane, or the lane of a head. -/
theorem lane_cases (n : Lane) : n = 4 ∨ ∃ h : Head, n = h.castSucc := by
  revert n
  decide

theorem castSucc_ne_control (h : Head) : h.castSucc ≠ 4 := by
  revert h
  decide

theorem ownerBusy_iff {s : State} {n : Lane} : s.ownerBusy n = true ↔
    (n = 4 ∧ s.order.stage ≠ .none) ∨ ∃ h : Head, n = h.castSucc ∧ (s.record h).state ≠ .idle := by
  rcases lane_cases n with rfl | ⟨h, rfl⟩
  · have busy : s.ownerBusy 4 = true ↔ s.order.stage ≠ .none := bne_iff_ne
    rw [busy]
    refine ⟨fun order => .inl ⟨rfl, order⟩, fun e => e.elim (fun ⟨_, order⟩ => order) ?_⟩
    exact fun ⟨h, lane, _⟩ => absurd lane.symm (castSucc_ne_control h)
  · have station : isControlLane h.castSucc = false := decide_eq_false (castSucc_ne_control h)
    have busy : s.ownerBusy h.castSucc = true ↔ (s.record h).state ≠ .idle := by
      rw [State.ownerBusy, station, headOfLane_castSucc]
      exact decide_eq_true_iff
    rw [busy]
    refine ⟨fun state => .inr ⟨h, rfl, state⟩, fun e => e.elim (fun ⟨lane, _⟩ => absurd lane (castSucc_ne_control h)) ?_⟩
    rintro ⟨i, lane, state⟩
    cases Fin.castSucc_injective 4 lane
    exact state

theorem kindOfLane_toNat (n : Lane) : (kindOfLane n).toNat = if n = 4 then 2 else 1 := by
  revert n
  decide

theorem fixedPartOf_eq (n : Lane) : fixedPartOf n = if n = 4 then 0x38 else 0x200 := by
  revert n
  decide

/-! ### The header (R144, R145, R147) -/

section

variable {s : State} {k : Look} {ws : List Word}

theorem headerAnswered_void (void : wordAt ws 0 = 2) : s.headerAnswered k ws =
    s.passCandidate { k with next := wordAt ws 2 } true := if_pos void

theorem headerAnswered_other (filed : wordAt ws 0 ≠ 1) (void : wordAt ws 0 ≠ 2) : s.headerAnswered k ws =
    s.endLook { k with next := wordAt ws 2 } .waiting false := (if_neg void).trans (if_neg filed)

section

variable (filed : wordAt ws 0 = 1)
include filed

theorem headerAnswered_filed : s.headerAnswered k ws =
    if s.ownerBusy k.lane then s.endLook { k with next := wordAt ws 2 } .busy false
    else s.validateHeader { k with next := wordAt ws 2 } (wordAt ws 1) :=
  (if_neg (by rw [filed]; decide)).trans (if_pos filed)

theorem headerAnswered_busy (busy : s.ownerBusy k.lane = true) : s.headerAnswered k ws =
    s.endLook { k with next := wordAt ws 2 } .busy false := (headerAnswered_filed filed).trans (if_pos busy)

theorem headerAnswered_free (free : ¬ s.ownerBusy k.lane = true) : s.headerAnswered k ws =
    s.validateHeader { k with next := wordAt ws 2 } (wordAt ws 1) := (headerAnswered_filed filed).trans (if_neg free)

end

section

variable {w : Word} {size : Nat} (hsize : size = if k.lane = 4 then 0x38 else 0x200)

theorem validateHeader_kind (other : w.toNat ≠ if k.lane = 4 then 2 else 1) :
    s.validateHeader k w = s.refuseSheet k .kind := by
  rw [← kindOfLane_toNat] at other
  exact if_pos fun e => other (congrArg BitVec.toNat e)

variable (kind : w.toNat = if k.lane = 4 then 2 else 1)
include hsize kind

theorem validateHeader_window (outside : s.insideSheet k.candidate.toNat size = false) :
    s.validateHeader k w = s.refuseSheet k .window := by
  rw [← kindOfLane_toNat] at kind
  rw [hsize, ← fixedPartOf_eq] at outside
  exact (if_neg (not_not.mpr (BitVec.eq_of_toNat_eq kind))).trans (if_pos outside)

theorem validateHeader_passed (inside : s.insideSheet k.candidate.toNat size = true) : s.validateHeader k w =
    s.setLook (some { k with stage := if k.lane = 4 then .takenWrite else .requestRead }) := by
  rw [← kindOfLane_toNat] at kind
  rw [hsize, ← fixedPartOf_eq] at inside
  refine ((if_neg (not_not.mpr (BitVec.eq_of_toNat_eq kind))).trans (if_neg (by simp [inside]))).trans ?_
  simp only [isControlLane_iff]

end

end

/-! ### Checks 3 to 8 of the request part (R147, R148) -/

theorem roleOf_none_iff {b : Byte} : roleOf b = none ↔ ¬ (1 ≤ b.toNat ∧ b.toNat ≤ 4) := by
  unfold roleOf
  split
  · subst b; decide
  · split
    · subst b; decide
    · split
      · subst b; decide
      · split
        · subst b; decide
        · simp only [true_iff]
          bv_omega

theorem roleOf_station_iff {b : Byte} : roleOf b = some .station ↔ b = 1 := by
  unfold roleOf
  constructor
  · intro h
    by_contra n
    rw [if_neg n] at h
    split at h
    · cases h
    · split at h
      · cases h
      · split at h <;> cases h
  · rintro rfl
    rfl

theorem loopIdAllowed_iff {role : Role} {b c : Byte} (hr : roleOf c = some role) :
    loopIdAllowed role b = true ↔ b.toNat ≤ 3 ∨ (b = 0xFF ∧ c = 1) := by
  have station : role = .station ↔ c = 1 := by rw [← roleOf_station_iff, hr, Option.some.injEq]
  simp only [loopIdAllowed, Bool.or_eq_true, Bool.and_eq_true, decide_eq_true_eq, station, Nat.lt_succ_iff]

theorem limitsAllowed_iff {q : StationRequest} : limitsAllowed q = true ↔
    q.set.toNat ≤ 7 ∧ 1 ≤ q.target ∧ 1 ≤ q.minGood ∧ q.minGood ≤ q.target ∧ 1 ≤ q.settleLimit ∧
    q.settleLimit ≤ 3600 ∧ 1 ≤ q.acquireLimit ∧ q.acquireLimit ≤ 3600 ∧ q.linkGrace ≤ 600 ∧ q.maxIntr ≤ 15 ∧
    q.trailCap ≤ 4096 := decide_eq_true_iff

theorem loopOfByte_isSome_iff {b : Byte} : (loopOfByte b).isSome = true ↔ b.toNat ≤ 3 := by
  unfold loopOfByte
  split <;> simp <;> omega

theorem clockMissing_iff {s : State} {q : StationRequest} : s.clockMissing q = true ↔
    ¬ (s.ctrl.clockSet = true ∨ (q.options.tide = false ∧ 3 < q.loop.toNat)) := by
  simp only [State.clockMissing, Bool.and_eq_true, Bool.not_eq_true', Bool.or_eq_true, loopOfByte_isSome_iff]
  rw [not_or, not_and_or, Bool.not_eq_true, Bool.not_eq_false, Nat.not_lt]

section

variable {s : State} {n : Lane} {sheet : Word} {q : StationRequest} {passes : Nat → Prop}
  (head : passes 3 ↔ q.head.toNat = n.val) (role : passes 4 ↔ 1 ≤ q.role.toNat ∧ q.role.toNat ≤ 4)
  (loop : passes 5 ↔ q.loop.toNat ≤ 3 ∨ (q.loop = 0xFF ∧ q.role = 1)) (limits : passes 6 ↔ limitsAllowed q = true)
  (window : passes 7 ↔ s.insideSheet (sheet.toNat + 0x200) (32 * q.trailCap) = true)
  (clock : passes 8 ↔ s.ctrl.clockSet = true ∨ (q.options.tide = false ∧ 3 < q.loop.toNat))
include head role loop limits window clock

/-- With a head and a role that pass, checks 5 to 8 decide. -/
theorem stationFault_eq (h3 : passes 3) (h4 : passes 4) [Decidable (passes 5)] [Decidable (passes 6)]
    [Decidable (passes 7)] [Decidable (passes 8)] : s.stationFault n sheet q =
      if ¬ passes 5 then some .loopId else if ¬ passes 6 then some .limits else if ¬ passes 7 then some .window
      else if ¬ passes 8 then some .clockUnset else none := by
  obtain ⟨r, hr⟩ := Option.ne_none_iff_exists'.mp fun e => roleOf_none_iff.mp e (role.mp h4)
  have trail : s.trailInside sheet q = s.insideSheet (sheet.toNat + 0x200) (32 * q.trailCap) := rfl
  unfold State.stationFault
  rw [if_neg (not_not.mpr (head.mp h3)), hr]
  dsimp only
  simp only [← Bool.not_eq_true, trail, loop, limits, window, clock, loopIdAllowed_iff hr, clockMissing_iff]

/-- The checks are taken in their order, and the first that fails gives the reason (R147). -/
theorem stationFault_first {r : Reason} (first : r = .head ∧ ¬ passes 3 ∨ passes 3 ∧ (r = .role ∧ ¬ passes 4 ∨
    passes 4 ∧ (r = .loopId ∧ ¬ passes 5 ∨ passes 5 ∧ (r = .limits ∧ ¬ passes 6 ∨ passes 6 ∧
      (r = .window ∧ ¬ passes 7 ∨ passes 7 ∧ r = .clockUnset ∧ ¬ passes 8))))) :
    s.stationFault n sheet q = some r := by
  classical
  have later := stationFault_eq head role loop limits window clock
  rcases first with ⟨rfl, h3⟩ | ⟨h3, ⟨rfl, h4⟩ | ⟨h4, ⟨rfl, h5⟩ | ⟨h5, ⟨rfl, h6⟩ | ⟨h6, ⟨rfl, h7⟩ | ⟨h7, rfl, h8⟩⟩⟩⟩⟩
  · exact if_pos fun e => h3 (head.mpr e)
  · rw [State.stationFault, if_neg (not_not.mpr (head.mp h3)), roleOf_none_iff.mpr fun e => h4 (role.mpr e)]
  · rw [later h3 h4, if_pos h5]
  · simp [later h3 h4, h5, h6]
  · simp [later h3 h4, h5, h6, h7]
  · simp [later h3 h4, h5, h6, h7, h8]

theorem stationFault_none (all : ∀ i, 3 ≤ i → i ≤ 8 → passes i) : s.stationFault n sheet q = none := by
  classical
  rw [stationFault_eq head role loop limits window clock (all 3 (by omega) (by omega)) (all 4 (by omega) (by omega))]
  simp [all 5, all 6, all 7, all 8]

end

section

variable {s : State} {k : Look} {ws : List Word}

theorem requestAnswered_refused {r : Reason}
    (failed : s.stationFault k.lane k.candidate (parseRequest ws) = some r) :
    s.requestAnswered k ws = s.refuseSheet k r := by
  simp only [State.requestAnswered, failed]

theorem requestAnswered_passed (passed : s.stationFault k.lane k.candidate (parseRequest ws) = none) :
    s.requestAnswered k ws = s.setLook (some { k with stage := .calCheck, request := some (parseRequest ws) }) := by
  simp only [State.requestAnswered, passed]

/-! ### What a look that no STOP has met leaves beside the Sheet Walker (R154) -/

/-- A look that ends, no STOP having met it, changes the Sheet Walker alone. -/
theorem endLook_walker (going : k.stopped = false) (st : LaneState) (again : Bool) :
    unchangedBut [.walker] s (s.endLook k st again) :=
  (endLook_frame s k st again).narrow_ctrl (endLook_ctrl going st again) (by decide)

theorem passCandidate_walker (going : k.stopped = false) : unchangedBut [.walker] s (s.passCandidate k true) :=
  (passCandidate_frame s k true).narrow_ctrl (passCandidate_ctrl going) (by decide)

/-- A voided sheet passed: at the limit of sheets the look ends with the flag set again, before it the next-pointer decides
(R142, R143, log 14). -/
theorem passCandidate_looks (going : k.stopped = false) (unclaimed : k.claim = none) :
    (64 ≤ k.moved + 1 → (s.passCandidate k true).walker.look = none ∧
      ((s.passCandidate k true).lane k.lane).flag = true) ∧
    (k.moved + 1 < 64 → k.next = 0 → (s.passCandidate k true).walker.look = none) ∧
    (k.moved + 1 < 64 → k.next ≠ 0 → k.next.toNat % 8 = 0 → (s.passCandidate k true).walker.look = some
      { k with stage := .headerRead, candidate := k.next, moved := k.moved + 1, placed := false, request := none }) ∧
    (k.moved + 1 < 64 → k.next.toNat % 8 ≠ 0 → (s.passCandidate k true).walker.look = some
      { k with stage := .misaligned k.next, moved := k.moved + 1, placed := false, request := none }) := by
  refine ⟨fun limit => ?_, fun below zero => ?_, fun below found even => ?_, fun below odd => ?_⟩
  · have ended := endLook_lane (s.moveAnchor k) k.counted .waiting true
    rw [passCandidate_limit going limit]
    exact ⟨endLook_look _ _ _ _, (congrArg LaneRecord.flag ended).trans (Bool.or_true _)⟩
  · rw [passCandidate_below going below, zero, candidateAt_zero]
    exact endLook_look _ _ _ _
  · rw [passCandidate_below going below, candidateAt_aligned found even, setLook_look, ← unclaimed]
    rfl
  · rw [passCandidate_below going below, candidateAt_misaligned odd, setLook_look, ← unclaimed]
    rfl

/-- A look that ends without its flag being set again leaves its lane in the state given, and no other lane. -/
theorem endLook_lanes (st : LaneState) :
    (s.endLook k st false).lane k.lane = { s.lane k.lane with state := st } ∧
    ∀ i, i ≠ k.lane → (s.endLook k st false).lane i = s.lane i :=
  ⟨(endLook_lane s k st false).trans (by rw [Bool.or_false]), fun _ other => endLook_lane_ne s k st false other⟩

end

section

variable {s : State} {data ws : List Word} {k : Look} (done : completes .sheetWalker data ws s)
  (hk : s.walker.look = some k) (going : k.stopped = false)
include done hk going

/-- The answer of a root or next-pointer read (R143). -/
theorem exec_addressAnswered (stage : k.stage = .rootRead ∨ k.stage = .nextRead) :
    exec (.busAnswer (.okay data)) s = .next ((s.freed .sheetWalker).candidateAt k (wordAt ws 0)) := by
  rw [exec_lookAnswered done hk (.inl going), State.lookAnswered]
  rcases stage with e | e <;> rw [e]

theorem exec_headerAnswered (stage : k.stage = .headerRead) :
    exec (.busAnswer (.okay data)) s = .next ((s.freed .sheetWalker).headerAnswered k ws) := by
  rw [exec_lookAnswered done hk (.inl going), State.lookAnswered, stage]

theorem exec_requestAnswered (stage : k.stage = .requestRead) :
    exec (.busAnswer (.okay data)) s = .next ((s.freed .sheetWalker).requestAnswered k ws) := by
  rw [exec_lookAnswered done hk (.inl going), State.lookAnswered, stage]

end

/-- Settles O54: the answer of a root or next-pointer read; the header, by its state word and its owner; and the request
part, by checks 3 to 8. -/
theorem sheetsAreValidated : Obligations.SheetsAreValidated := by
  rintro s u data ws k n done rfl hk going hc rfl
  have freed := freed_frame .sheetWalker s
  have lanes (i : Lane) : (s.freed .sheetWalker).lane i = s.lane i := rfl
  have owner : (s.freed .sheetWalker).ownerBusy k.lane = s.ownerBusy k.lane := rfl
  have inside (a b : Nat) : (s.freed .sheetWalker).insideSheet a b = s.insideSheet a b := rfl
  have clock : (s.freed .sheetWalker).ctrl.clockSet = s.ctrl.clockSet := rfl
  refine ⟨fun stage => ?_, fun stage => ?_, fun stage q passes hq head role loop limits window clockSet => ?_⟩
  · have taken := exec_addressAnswered done hk going stage
    generalize s.freed .sheetWalker = u at *
    refine ⟨fun zero => ?_, fun odd => ?_, fun found even => ?_⟩
    · rw [zero, candidateAt_zero, lanes] at taken
      obtain ⟨own, others⟩ := endLook_lanes (s := u) (k := k)
        (if (s.lane k.lane).anchor = none then .unrooted else .waiting)
      simp only [lanes] at own others
      exact ⟨_, taken, endLook_look _ _ _ _, own, others, freed.andThen (endLook_walker going _ _) (by decide)⟩
    · rw [taken, candidateAt_misaligned odd]
    · rw [taken, candidateAt_aligned found even]
  · have taken := exec_headerAnswered done hk going stage
    generalize s.freed .sheetWalker = u at *
    set n : Look := { k with next := wordAt ws 2 } with hn
    have going : n.stopped = false := going
    have unclaimed : n.claim = none := hc
    have left (st : LaneState) : (u.endLook n st false).walker.look = none ∧
        (u.endLook n st false).lane k.lane = { s.lane k.lane with state := st } ∧
        unchangedBut [.port, .walker] s (u.endLook n st false) := by
      rw [← lanes]
      exact ⟨endLook_look u n st false, (endLook_lanes st).1, freed.andThen (endLook_walker going _ _) (by decide)⟩
    refine ⟨fun void => ?_, fun filed void => ?_,
      fun busy filed hbusy => ⟨fun held => ?_, fun free kind size hkind hsize => ?_⟩⟩
    · rw [headerAnswered_void void, ← hn] at taken
      obtain ⟨anchor, waiting⟩ := passCandidate_lane (s := u) (k := n)
      obtain ⟨limit, zero, even, odd⟩ := passCandidate_looks (s := u) going unclaimed
      exact ⟨_, taken, anchor, waiting, limit, zero, even, odd,
        freed.andThen (passCandidate_walker going) (by decide)⟩
    · rw [headerAnswered_other filed void] at taken
      exact ⟨_, taken, left .waiting⟩
    · rw [headerAnswered_busy filed (by rw [owner, ownerBusy_iff]; exact hbusy.mp held)] at taken
      exact ⟨_, taken, left .busy⟩
    · rw [headerAnswered_free filed (by rw [owner, ownerBusy_iff]; exact fun e => free (hbusy.mpr e)), ← hn] at taken
      rw [hkind, taken]
      refine ⟨fun other => ?_, fun same outside => ?_, fun same within => ?_⟩
      · rw [validateHeader_kind (k := n) other, refuseSheet_unclaimed unclaimed]
      · rw [validateHeader_window (k := n) hsize same (by rw [inside]; exact outside), refuseSheet_unclaimed unclaimed]
      · rw [validateHeader_passed (k := n) hsize same (by rw [inside]; exact within)]
  · have taken := exec_requestAnswered done hk going stage
    subst hq
    rw [← limitsAllowed_iff] at limits
    rw [← inside] at window
    rw [← clock] at clockSet
    generalize s.freed .sheetWalker = u at *
    refine ⟨fun r first => ?_, fun all => ?_⟩
    · rw [taken, requestAnswered_refused (stationFault_first head role loop limits window clockSet first),
        refuseSheet_unclaimed hc]
    · rw [taken, requestAnswered_passed (stationFault_none head role loop limits window clockSet all)]

end Sys2Proof.Machine
end

-- ==== Proofs of the family "sheets and lanes": the writes of the Sheet Walker (O55) ====
section
/-! SUPPORT. What each answered write makes of the look, and how a look ends by a fault or after a STOP. -/

namespace Sys2Proof.Machine

section

variable {s : State} {k : Look} {data ws : List Word}

/-! ### The writes answered (R149, R151, R154) -/

section

variable (done : completes .sheetWalker data ws s) (hk : s.walker.look = some k)
  (going : k.stopped = false ∨ k.placed = true)
include done hk going

theorem exec_takenAnswered (stage : k.stage = .takenWrite) : exec (.busAnswer (.okay data)) s =
    .next ((s.freed .sheetWalker).setLook (some { k with stage := if k.lane = 4 then .orderTake else .take })) := by
  rw [exec_lookAnswered done hk going, State.lookAnswered, stage]
  simp only [takeStage, isControlLane_iff]

theorem exec_answerAnswered {r : Reason} (stage : k.stage = .answerWrite r) : exec (.busAnswer (.okay data)) s =
    .next ((s.freed .sheetWalker).setLook (some { k with stage := .refusedWrite })) := by
  rw [exec_lookAnswered done hk going, State.lookAnswered, stage]

theorem exec_refusedAnswered (stage : k.stage = .refusedWrite) : exec (.busAnswer (.okay data)) s =
    .next (((s.freed .sheetWalker).raise (if k.lane = 4 then .order else .sheet)).passCandidate k true) := by
  rw [exec_lookAnswered done hk going, State.lookAnswered, stage]
  simp only [refusalEvent, isControlLane_iff]

end

/-- A refused sheet passed: where a STOP has met the look it ends here, with the stop condition tested (R151, R154, R188). -/
theorem passCandidate_tested {u : State} {es : List Event} (raised : u.ctrl = { s.ctrl with raised := s.ctrl.raised ++ es }) :
    lookTested k es s (u.passCandidate k true) := by
  cases stopped : k.stopped with
  | true =>
    rw [passCandidate_stopped stopped]
    exact endLook_tested s k.counted .waiting false (u := u.moveAnchor k) raised
  | false =>
    refine ⟨fun met => absurd (stopped.symm.trans met) Bool.false_ne_true, fun _ => ?_⟩
    rw [passCandidate_ctrl stopped, raised]

/-! ### A look that a STOP or a fault ends (R146, R154) -/

theorem returnClaim_lane (n : Lane) : (s.returnClaim k).lane n = s.lane n :=
  congrArg (fun w : SheetWalker => w.lanes[n]) ((returnClaim_frame s k).walker (by decide))

theorem lookStopped_frame_unplaced (unplaced : k.placed = false) : unchangedBut [.walker, .cal] s (s.lookStopped k) := by
  rw [lookStopped_unplaced unplaced]
  exact ((returnClaim_frame s k).andThen (updLane_frame _ _ _) (fun _ m => m)).andThen (setLook_frame _ _) (by decide)

theorem lookStopped_lane : (s.lookStopped k).lane k.lane = { s.lane k.lane with state := k.before } :=
  (endLook_lanes k.before).1.trans (by rw [returnClaim_lane])

/-- The end of a look leaves the Calibration Store as the return of the claim has left it. -/
theorem endLook_returned {c : SetId} (claimed : k.claim = some c) (st : LaneState) :
    (((s.returnClaim k).endLook k st false).calSet c).use = (s.calSet c).use - 1 := by
  have cal : ((s.returnClaim k).endLook k st false).cal = (s.returnClaim k).cal :=
    (endLook_frame _ k st false).cal (by decide)
  rw [← returnClaim_use claimed]
  unfold State.calSet
  rw [cal]

theorem lookFault_lanes : (s.lookFault k).lane k.lane = { s.lane k.lane with state := .held } ∧
    ∀ n, n ≠ k.lane → (s.lookFault k).lane n = s.lane n := by
  obtain ⟨own, others⟩ := endLook_lanes (s := s.returnClaim k) (k := k) .held
  simp only [returnClaim_lane] at own others
  exact ⟨own, others⟩

/-- A fault ends the look, and the Control Port tests the stop condition where the look was carried through (R146, R188). -/
theorem lookFault_tested {u : State} {es : List Event} (raised : u.ctrl = { s.ctrl with raised := s.ctrl.raised ++ es }) :
    lookTested k es s (u.lookFault k) :=
  endLook_tested s k .held false (u := u.returnClaim k) (((returnClaim_frame u k).ctrl (by decide)).trans raised)

theorem walkerFault_look (hk : s.walker.look = some k) : s.walkerFault = s.lookFault k := by
  simp only [State.walkerFault, hk]

end

/-- Settles O55: the writes answered, by the stage of the look; a look that STOP met with no write placed; and a fault of any
kind. -/
theorem walkerWritesAnswered : Obligations.WalkerWritesAnswered := by
  refine ⟨?_, fun s f i k failing hk => ?_⟩
  · rintro s u data ws k done rfl hk
    have freed := freed_frame .sheetWalker s
    refine ⟨fun going => ⟨exec_takenAnswered done hk going, fun r => exec_answerAnswered done hk going, fun stage => ?_⟩,
      fun stopped unplaced => ?_⟩
    · have taken := exec_refusedAnswered done hk going stage
      set e : Event := if k.lane = 4 then .order else .sheet
      have raised := raise_frame (s.freed .sheetWalker) e
      have ctrl : ((s.freed .sheetWalker).raise e).ctrl = { s.ctrl with raised := s.ctrl.raised ++ [e] } := rfl
      generalize (s.freed .sheetWalker).raise e = v at taken raised ctrl
      obtain ⟨anchor, waiting⟩ := passCandidate_lane (s := v) (k := k)
      refine ⟨_, taken, anchor, passCandidate_tested ctrl, fun stopped => ⟨?_, waiting⟩, fun onward below found even => ?_,
        (freed.andThen raised (fun _ m => m)).andThen (passCandidate_frame v k true) (by decide)⟩
      · rw [passCandidate_stopped stopped]
        exact endLook_look _ _ _ _
      · rw [passCandidate_below onward below, candidateAt_aligned found even]
        exact ⟨_, rfl, rfl, rfl, rfl, rfl, rfl⟩
    · have taken := exec_lookStopped done hk stopped unplaced
      exact ⟨_, taken, endLook_look _ _ _ _, lookStopped_lane, fun c claimed => endLook_returned claimed k.before,
        freed.andThen (lookStopped_frame_unplaced unplaced) (by decide)⟩
  · obtain ⟨u, d, a, taken, fault, grant, slot, ctrl, frame⟩ := requesterFault_of_faults failing
    have walker := frame.walker (by decide)
    have lane (n : Lane) : u.lane n = s.lane n := congrArg (fun w : SheetWalker => w.lanes[n]) walker
    have calSet (c : SetId) : u.calSet c = s.calSet c :=
      congrArg (fun x : CalibrationStore => x.sets[c]) (frame.cal (by decide))
    rw [State.requesterFault, walkerFault_look (by rw [walker]; exact hk)] at taken
    obtain ⟨own, others⟩ := lookFault_lanes (s := u) (k := k)
    have faulted := lookFault_frame u k
    have port : (u.lookFault k).port = u.port := faulted.port (by decide)
    refine ⟨_, taken, endLook_look _ _ _ _, own.trans (by rw [lane]), fun n other => (others n other).trans (lane n),
      lookFault_tested ctrl, ?_, ?_, ⟨d, a, ?_⟩, fun c claimed => ?_, frame.andThen faulted (by decide)⟩
    · rw [port, grant]
    · unfold State.slot
      rw [port]
      exact slot
    · rw [port, fault]
    · rw [← calSet c]
      exact endLook_returned claimed .held

end Sys2Proof.Machine
end

-- ==== Proofs of the family "sheets and lanes": the orders read and answered (O57) ====
section
/-! SUPPORT. The arguments that each order allows, and what the Order Executor makes of an answer and of a fault outside a load
of a calibration record. -/

namespace Sys2Proof.Machine

/-! ### The arguments of an order (R161) -/

theorem inRange_iff {lo hi x : Nat} : inRange lo hi x = true ↔ lo ≤ x ∧ x ≤ hi := decide_eq_true_iff

theorem addressArg_iff {x : Dword} : addressArg x = true ↔ x.toNat < 2 ^ 32 ∧ x.toNat % 8 = 0 := decide_eq_true_iff

theorem settingsAllowed_iff {x : HeadSettings} : settingsAllowed x = true ↔
    x.rateCode ≤ 3 ∧ 1 ≤ x.linkIn ∧ x.linkIn ≤ 15 ∧ 1 ≤ x.linkOut ∧ x.linkOut ≤ 15 ∧ 100 ≤ x.silence ∧
    x.silence ≤ 10000 ∧ 1 ≤ x.tolIn ∧ x.tolIn ≤ 2000 ∧ x.tolIn ≤ x.tolOut ∧ x.tolOut ≤ 2000 ∧ 1 ≤ x.runIn ∧
    x.runIn ≤ 1023 ∧ 1 ≤ x.runOut ∧ x.runOut ≤ 255 ∧ x.on ≤ 15 ∧ x.off ≤ 15 ∧ (x.on = 0 → x.off = 0) := by
  simp only [settingsAllowed, Bool.and_eq_true, inRange_iff, Bool.not_eq_true', decide_eq_false_iff_not, Nat.zero_le,
    true_and, and_assoc, not_and, Nat.pos_iff_ne_zero, not_not]

section

variable {o : OrderExecutor} {allowed : Prop}
  (clock : o.code = 1 → (allowed ↔ o.arg0.toNat < 2 ^ 63))
  (head : ∀ x, x = parseSettings o.arg1 o.arg2 o.arg3 → o.code = 2 →
    (allowed ↔ o.arg0.toNat ≤ 3 ∧ settingsAllowed x = true))
  (load : o.code = 3 → (allowed ↔ o.arg0.toNat ≤ 7 ∧ o.arg1.toNat < 2 ^ 32 ∧ o.arg1.toNat % 8 = 0))
  (clear : o.code = 4 → (allowed ↔ o.arg0.toNat ≤ 7))
  (swap : o.code = 5 → (allowed ↔ o.arg1.toNat ≤ 4096 ∧
    (o.arg1 = 0 ∨ (o.arg0.toNat < 2 ^ 32 ∧ o.arg0.toNat % 8 = 0))))
  (cancel : o.code = 6 → (allowed ↔ o.arg0.toNat < 2 ^ 32 ∧ o.arg0.toNat % 8 = 0))
  (reset : o.code = 7 ∨ o.code = 8 → (allowed ↔ o.arg0.toNat ≤ 3))
include clock head load clear swap cancel reset

/-- The table of R161, order by order. -/
theorem argumentsAllowed_iff (known : o.code ≠ 0) (coded : o.code.toNat ≤ 8) :
    argumentsAllowed o.code.toNat o.arg0 o.arg1 o.arg2 o.arg3 = true ↔ allowed := by
  have code {n : Nat} (e : o.code.toNat = n) : o.code = BitVec.ofNat 32 n := by rw [← e, BitVec.ofNat_toNat, BitVec.setWidth_eq]
  have positive : o.code.toNat ≠ 0 := fun e => known (code e)
  have named : o.code.toNat = 1 ∨ o.code.toNat = 2 ∨ o.code.toNat = 3 ∨ o.code.toNat = 4 ∨ o.code.toNat = 5 ∨
      o.code.toNat = 6 ∨ o.code.toNat = 7 ∨ o.code.toNat = 8 := by omega
  rcases named with e | e | e | e | e | e | e | e <;> rw [e]
  · rw [clock (code e)]
    exact decide_eq_true_iff
  · rw [head _ rfl (code e)]
    simp only [argumentsAllowed, Bool.and_eq_true, inRange_iff, Nat.zero_le, true_and]
  · rw [load (code e)]
    simp only [argumentsAllowed, Bool.and_eq_true, inRange_iff, addressArg_iff, Nat.zero_le, true_and]
  · rw [clear (code e)]
    simp only [argumentsAllowed, inRange_iff, Nat.zero_le, true_and]
  · rw [swap (code e), ← BitVec.toNat_inj]
    simp only [argumentsAllowed, Bool.and_eq_true, Bool.or_eq_true, decide_eq_true_eq, inRange_iff, addressArg_iff,
      Nat.zero_le, true_and]
    rfl
  · rw [cancel (code e)]
    exact addressArg_iff
  · rw [reset (.inl (code e))]
    simp only [argumentsAllowed, inRange_iff, Nat.zero_le, true_and]
  · rw [reset (.inr (code e))]
    simp only [argumentsAllowed, inRange_iff, Nat.zero_le, true_and]

end

section

variable {o : OrderExecutor}

theorem orderFaultOf_unknown (unknown : o.code = 0 ∨ 8 < o.code.toNat) : orderFaultOf o = some .unknownOrder := by
  refine if_pos ?_
  rcases unknown with e | e
  · rw [e]
    decide
  · omega

section

variable (known : o.code ≠ 0) (coded : o.code.toNat ≤ 8)
include known coded

theorem orderFaultOf_known : orderFaultOf o =
    if argumentsAllowed o.code.toNat o.arg0 o.arg1 o.arg2 o.arg3 = false then some .range else none := by
  have positive : o.code.toNat ≠ 0 := fun e => known (BitVec.eq_of_toNat_eq e)
  exact if_neg (not_not.mpr ⟨Nat.pos_of_ne_zero positive, coded⟩)

end

end

/-! ### The answers and the faults, by the stage of the order (R160 to R163) -/

section

variable {s : State}

theorem orderRead_refused {ws : List Word} {r : Reason} (refused : orderFaultOf (loadOrder ws s.order) = some r) :
    s.orderRead ws = (s.setOrder (loadOrder ws s.order)).orderRefused r := by
  simp only [State.orderRead, refused]

theorem orderRead_presented {ws : List Word} (passed : orderFaultOf (loadOrder ws s.order) = none) :
    s.orderRead ws = s.setOrder { loadOrder ws s.order with stage := .acting .presented } := by
  simp only [State.orderRead, passed]

theorem orderOkay_reading (stage : s.order.stage = .reading) (ws : List Word) : s.orderOkay ws = s.orderRead ws := by
  simp only [State.orderOkay, stage]

theorem orderOkay_answerWord (stage : s.order.stage = .answerWord) (ws : List Word) :
    s.orderOkay ws = s.setOrder { s.order with stage := .answerState } := by
  simp only [State.orderOkay, stage]

theorem orderOkay_answerState (stage : s.order.stage = .answerState) (ws : List Word) :
    s.orderOkay ws = (s.raise .order).endOrder := by
  simp only [State.orderOkay, stage]

theorem orderFault_reading (stage : s.order.stage = .reading) (k : FaultKind) :
    s.orderFault k = s.orderRefused (if k = .window then .window else .memory) := by
  simp only [State.orderFault, stage, reasonOfFault_eq]

theorem orderFault_writing (stage : s.order.stage = .answerWord ∨ s.order.stage = .answerState) (k : FaultKind) :
    s.orderFault k = s.endOrder := by
  unfold State.orderFault
  rcases stage with e | e <;> rw [e]

/-- An order that has ended leaves the executor as after a reset (R159, R162). -/
theorem endOrder_order : s.endOrder.order = {} :=
  ((testStop_frame _).order (by decide)).trans ((requestBusyLook_frame { s with order := {} } 4).order (by decide))

end

/-- Settles O57: the order part, by its code and arguments; the answer word and the state word; and a fault of the read and of
either write. -/
theorem ordersReadAndAnswered : Obligations.OrdersReadAndAnswered := by
  refine ⟨?_, fun s k c failing => ?_⟩
  · rintro s u data ws o allowed done rfl
    have taken := exec_okay_of_completes done
    have freed := freed_frame .orderExecutor s
    rw [State.requesterOkay] at taken
    refine ⟨?_, fun stage => ?_, fun stage => ?_⟩
    · rintro stage ho clock head load clear swap cancel reset
      have loaded : loadOrder ws s.order = o := ho.symm
      rw [orderOkay_reading (s := s.freed .orderExecutor) stage] at taken
      simp only [← settingsAllowed_iff] at head
      have arguments := argumentsAllowed_iff clock head load clear swap cancel reset
      have refused {r : Reason} (h : orderFaultOf o = some r) := orderRead_refused (s := s.freed .orderExecutor) (ws := ws)
        (r := r) ((congrArg orderFaultOf loaded).trans h)
      have presented (h : orderFaultOf o = none) := orderRead_presented (s := s.freed .orderExecutor) (ws := ws)
        ((congrArg orderFaultOf loaded).trans h)
      subst loaded
      refine ⟨fun unknown => ?_, fun known coded outside => ?_, fun known coded inside => ?_⟩
      · rw [taken, refused (orderFaultOf_unknown unknown)]
        rfl
      · rw [← arguments known coded, Bool.not_eq_true] at outside
        rw [taken, refused ((orderFaultOf_known known coded).trans (if_pos outside))]
        rfl
      · rw [← arguments known coded] at inside
        rw [taken, presented ((orderFaultOf_known known coded).trans (if_neg (by rw [inside]; exact nofun)))]
        rfl
    · rw [taken, orderOkay_answerWord (s := s.freed .orderExecutor) stage]
      rfl
    · rw [orderOkay_answerState (s := s.freed .orderExecutor) stage] at taken
      have ended := (raise_frame (s.freed .orderExecutor) .order).andThen (endOrder_frame _)
        (cs := [.order, .walker, .ctrl]) (by decide)
      obtain ⟨tested, flagged⟩ := endOrder_told s (es := [.order]) (u := (s.freed .orderExecutor).raise .order) rfl rfl
      exact ⟨_, taken, endOrder_order, tested, flagged, freed.andThen ended (by decide)⟩
  · obtain ⟨u, d, a, taken, fault, grant, slot, ctrl, frame⟩ := requesterFault_of_faults failing
    have order : u.order = s.order := frame.order (by decide)
    have faulted := orderFault_frame u k
    have port : (u.requesterFault .orderExecutor k).port = u.port := faulted.port (by decide)
    refine ⟨_, taken, port ▸ grant, ?_, ⟨d, a, port ▸ fault⟩, fun stage => ?_, fun stage => ?_⟩
    · unfold State.slot
      rw [port]
      exact slot
    · rw [State.requesterFault, orderFault_reading (by rw [order]; exact stage), ← order]
      exact ⟨rfl, ctrl, frame.andThen (orderRefused_frame u _) (by decide)⟩
    · rw [State.requesterFault, orderFault_writing (by rw [order]; exact stage)]
      obtain ⟨tested, flagged⟩ := endOrder_told s (u := u) (frame.walker (by decide)) ctrl
      exact ⟨endOrder_order, tested, flagged, frame.andThen (endOrder_frame u) (by decide)⟩

end Sys2Proof.Machine
end

-- ==== Proofs of the family "sheets and lanes": register writes and reads (O4) ====
section
/-! SUPPORT. The four rows that write CONTROL as one register write, and the fields of the word that a read of CONTROL
returns. -/

namespace Sys2Proof.Machine

/-! ### The rows that write CONTROL (R185, log 28) -/

section

variable {w : Word} (s : State)

theorem exec_run_write (form : (Instr.run w).wellFormed = true) : exec (.run w) s = .next (s.controlWrite w) := by
  simp only [Instr.wellFormed, controlRun, controlStop, controlReset, Bool.and_eq_true, Bool.not_eq_true'] at form
  obtain ⟨⟨run, stop⟩, reset⟩ := form
  simp only [State.controlWrite, run, stop, reset, Bool.false_eq_true, if_false]
  rfl

theorem exec_stop_write (form : (Instr.stop w).wellFormed = true) : exec (.stop w) s = .next (s.controlWrite w) := by
  simp only [Instr.wellFormed, controlRun, controlStop, controlReset, Bool.and_eq_true, Bool.not_eq_true'] at form
  obtain ⟨⟨stop, run⟩, reset⟩ := form
  simp only [State.controlWrite, run, stop, reset, Bool.false_eq_true, if_false]
  rfl

theorem exec_reset_write (form : (Instr.reset w).wellFormed = true) : exec (.reset w) s = .next (s.controlWrite w) :=
  congrArg Host.Outcome.next (if_pos form).symm

/-- RUN and STOP both clear, or both set, take no command (R185). -/
theorem exec_configuration_write (form : (Instr.attentionConfiguration w).wellFormed = true) :
    exec (.attentionConfiguration w) s = .next (s.controlWrite w) := by
  simp only [Instr.wellFormed, controlRun, controlStop, controlReset, Bool.and_eq_true, Bool.not_eq_true',
    beq_iff_eq] at form
  obtain ⟨reset, same⟩ := form
  simp only [State.controlWrite, ← same, reset, Bool.false_eq_true, if_false]
  cases w.getLsbD 0 <;> rfl

end

/-! ### Reads (R185, R195) -/

/-- The word that CONTROL reads back holds the configuration at its bits and 0 elsewhere (R185, 12 "registers"). -/
theorem controlWord_fields (live low : Bool) (source : BitVec 4) : ∀ v : Word,
    v = BitVec.ofNat 32 (16 * live.toNat + 32 * low.toNat + 256 * source.toNat) →
    v.getLsbD 4 = live ∧ v.getLsbD 5 = low ∧ v.extractLsb' 8 4 = source ∧ v &&& 0xFFFFF0CF = 0 := by
  rintro v rfl
  revert live low source
  decide

/-- Settles O4: the plain register writes, the rows that write CONTROL, and the reads. -/
theorem registerWritesTakeEffect : Obligations.RegisterWritesTakeEffect := by
  refine ⟨fun w s => ⟨rfl, rfl, rfl, rfl, rfl, fun running => ?_, fun idle => ?_⟩,
    fun w s => ⟨exec_run_write s, exec_stop_write s, exec_reset_write s, exec_configuration_write s⟩,
    fun s => ⟨rfl, rfl, rfl, rfl, rfl, controlWord_fields _ _ _ _ rfl⟩⟩
  · exact congrArg Host.Outcome.next (if_pos running)
  · exact congrArg Host.Outcome.next (if_neg idle)

end Sys2Proof.Machine
end

-- ==== Proofs of the family "memory port": grants, bus answers and faults (O11, O12) ====
section
/-! SUPPORT. The grant that the arbiter forms, what each bus answer makes of the access of a grant, and what a fault leaves
at the port. -/

namespace Sys2Proof.Machine

section

variable {s : State} {r : Requester} {g : Grant}

/-! ### Faults at the port (R180) -/

/-- A fault ends the access of `r`: its slot is free, the fault stands in the last-fault record and MEMFAULT is raised. The
requester's part of the event leaves the grant and the pointer as they were. -/
theorem portFault_ends_access (r : Requester) (d : Direction) (a : Nat) (k : FaultKind) (s : State) :
    (s.portFault r d a k).port.grant = s.port.grant ∧ (s.portFault r d a k).port.pointer = s.port.pointer ∧
      (s.portFault r d a k).slot r = none ∧ (s.portFault r d a k).port.lastFault = some ⟨r, d, a, k⟩ ∧
      .memfault ∈ (s.portFault r d a k).ctrl.raised := by
  have port := portFault_port s r d a k
  have free : (s.portFault r d a k).slot r = none := by
    rw [State.slot, port]
    exact setSlot_slot_same s r none
  exact ⟨by rw [port], by rw [port], free, by rw [port], portFault_raised s r d a k⟩

/-! ### Grants (R176 to R178) -/

theorem insideWindow_iff (w : Option Window) : insideWindow w g = true ↔
    ∃ v, w = some v ∧ v.base ≤ g.address ∧ g.address + 4 * g.count ≤ v.limit := by
  cases w with
  | none => simp [insideWindow]
  | some v => simp [insideWindow]

/-- The window check does not read the pointer, which the arbiter has moved by then. -/
theorem formGrant_of_passes {x : Transfer}
    (passes : s.grantPasses x.access.window (grantOf r s.port.grantSize x) = true) :
    s.formGrant r.number x =
      { s with port := { s.port with pointer := r.number, grant := some (grantOf r s.port.grantSize x) } } := by
  simp only [State.formGrant, requesterAt_number]
  exact if_pos passes

theorem formGrant_of_fails {x : Transfer}
    (fails : s.grantPasses x.access.window (grantOf r s.port.grantSize x) = false) :
    s.formGrant r.number x = State.portFault r x.access.direction (x.access.address + 4 * x.done) .window
      { s with port := { s.port with pointer := r.number } } := by
  simp only [State.formGrant, requesterAt_number]
  exact if_neg (Bool.eq_false_iff.mp fails)

theorem exec_grant_of_chosen {x : Transfer} (free : s.port.grant = none)
    (chosen : s.chosenRequester = some r.number) (waiting : s.slot r = some x) :
    exec .grant s = .next (s.formGrant r.number x) := by
  have presented : s.port.slots[r.number] = some x := waiting
  simp only [exec, execGrant, free, chosen, presented, if_true]

/-- With the bus free, GRANT finds no access waiting, or forms the grant of one. -/
theorem exec_grant_cases {t : State} (free : s.port.grant = none) (taken : exec .grant s = .next t) :
    t = s ∨ ∃ r x, s.slot r = some x ∧ t = s.formGrant r.number x := by
  cases chosen : s.chosenRequester with
  | none =>
    simp only [exec, execGrant, free, chosen, if_true, Host.Outcome.next.injEq] at taken
    exact .inl taken.symm
  | some n =>
    obtain ⟨r, rfl⟩ : ∃ r : Requester, r.number = n := ⟨requesterAt n, number_requesterAt n⟩
    have waits : (s.slot r).isSome = true := List.find?_some (p := fun n : Fin 6 => s.port.slots[n].isSome) chosen
    obtain ⟨x, waiting⟩ := Option.isSome_iff_exists.mp waits
    rw [exec_grant_of_chosen free chosen waiting] at taken
    exact .inr ⟨r, x, waiting, (Host.Outcome.next.inj taken).symm⟩

/-- A grant is issued only after it has passed its window. -/
theorem exec_grant_issued {t : State} (free : s.port.grant = none) (taken : exec .grant s = .next t)
    (issued : t.port.grant = some g) :
    ∃ x, s.slot g.requester = some x ∧ s.grantPasses x.access.window g = true := by
  obtain rfl | ⟨r, x, waiting, rfl⟩ := exec_grant_cases free taken
  · exact absurd (free.symm.trans issued) nofun
  · cases passes : s.grantPasses x.access.window (grantOf r s.port.grantSize x) with
    | true =>
      rw [formGrant_of_passes passes] at issued
      obtain rfl : grantOf r s.port.grantSize x = g := Option.some.inj issued
      exact ⟨x, waiting, passes⟩
    | false =>
      rw [formGrant_of_fails passes, (portFault_ends_access ..).1] at issued
      exact absurd (free.symm.trans issued) nofun

/-! ### Bus answers (R177, R179, R182) -/

/-- An OKAY with words left: the access is waiting again, with the words of the grant done. -/
theorem exec_okay_with_words_left {x : Transfer} {data : List Word} (flying : s.port.grant = some g)
    (kept : g.discard = false) (waiting : s.slot g.requester = some x)
    (fits : g.direction = .write ∨ data.length = g.count) (left : x.done + g.count < x.access.count) :
    exec (.busAnswer (.okay data)) s =
      .next ((s.setGrant none).setSlot g.requester (some (grantDone g data x))) := by
  have goesOn : ¬ (grantDone g data x).access.count ≤ (grantDone g data x).done := Nat.not_le.mpr left
  simp only [exec, execBusAnswer, flying, kept, Bool.false_eq_true, if_false, answerFits, decide_eq_true fits, if_true,
    State.grantOkay, setGrant_slot, waiting, goesOn]

theorem exec_retry (flying : s.port.grant = some g) (kept : g.discard = false) :
    exec (.busAnswer .retry) s = .next (s.grantRetry g) := by
  simp only [exec, execBusAnswer, flying, kept, Bool.false_eq_true, if_false]

theorem exec_discarded (a : BusAnswer) (flying : s.port.grant = some g) (discarded : g.discard = true) :
    exec (.busAnswer a) s = .next s.discardedAnswer := by
  simp only [exec, execBusAnswer, flying, discarded, if_true]

/-- With the bus free no discarded grant of the Control Port is in flight, so a directory read that waits is presented
(R187). -/
theorem discardedAnswer_eq (s : State) : s.discardedAnswer =
    if s.ctrl.starting = some .directory ∧ s.slot .controlPort = none then
      (s.setGrant none).present .controlPort (readAccess .none s.ctrl.directory.toNat Config.directoryWords)
    else s.setGrant none := by
  have fresh : (s.setGrant none).staleControlGrant = false := rfl
  simp only [State.discardedAnswer, State.presentDirectory, fresh, and_true, setGrant_ctrl, setGrant_slot]

end

/-- Settles O11: the arbiter's choice is the first requester that waits, whose grant is then checked. -/
theorem grantServesRoundOrder : Obligations.GrantServesRoundOrder := by
  refine ⟨fun s r x j free waiting place before g formed => ?_, fun s t g free taken issued => ?_⟩
  · obtain rfl : g = grantOf r s.port.grantSize x := formed
    have chosen := chosenRequester_first s r j (by rw [waiting]; exact nofun) place before
    have taken := exec_grant_of_chosen free chosen waiting
    refine ⟨fun passes => by rw [taken, formGrant_of_passes passes], fun fails => ?_⟩
    rw [formGrant_of_fails fails] at taken
    obtain ⟨grant, pointer, slot, fault, raised⟩ := portFault_ends_access r x.access.direction
      (x.access.address + 4 * x.done) .window { s with port := { s.port with pointer := r.number } }
    exact ⟨_, taken, grant.trans free, pointer, slot, fault, raised⟩
  · obtain ⟨x, waiting, passes⟩ := exec_grant_issued free taken issued
    refine ⟨x, waiting, ?_⟩
    generalize x.access.window = window at passes ⊢
    cases window with
    | none => trivial
    | sheet => exact (insideWindow_iff _).mp passes
    | table => exact (insideWindow_iff _).mp passes

/-- Settles O12: the answers after which the access goes on, the answer of a discarded grant, and those that are faults. -/
theorem busAnswersEndOrGoOn : Obligations.BusAnswersEndOrGoOn := by
  refine ⟨fun s g flying => ⟨fun x data kept waiting fits left => ?_, fun kept below => ?_, ?_⟩,
    fun s g flying kept => ⟨?_, fun exhausted => ?_⟩⟩
  · exact exec_okay_with_words_left flying kept waiting fits left
  · rw [exec_retry flying kept, State.grantRetry, if_pos below]
    rfl
  · rintro a u discarded rfl
    rw [exec_discarded a flying discarded, discardedAnswer_eq]
    refine ⟨fun blocked => congrArg _ (if_neg ?_), fun directory free => congrArg _ (if_pos ⟨directory, free⟩)⟩
    rintro ⟨directory, free⟩
    exact blocked.elim (· directory) (· free)
  · obtain ⟨grant, -, slot, fault, raised⟩ :=
      portFault_ends_access g.requester g.direction g.address .busError (s.setGrant none)
    exact ⟨_, exec_error flying kept, grant, slot, fault, raised⟩
  · have taken := exec_retry flying kept
    rw [State.grantRetry, if_neg (Nat.not_lt.mpr exhausted)] at taken
    obtain ⟨grant, -, slot, fault, raised⟩ :=
      portFault_ends_access g.requester g.direction g.address .retryExhausted (s.setGrant none)
    exact ⟨_, taken, grant, slot, fault, raised⟩

end Sys2Proof.Machine
end

-- ==== Proofs of the family "memory port": the engine reset (O3) ====
section
/-! SUPPORT. The state that an engine reset leaves. -/

namespace Sys2Proof.Machine

/-- What an engine reset keeps: the waiting commands, which are outside the part, and the four things of R182 and R189. -/
theorem engineReset_eq (s : State) : s.engineReset = { State.reset with
    pending := s.pending
    port := { State.reset.port with grant := s.port.grant.map discardGrant }
    ctrl := { State.reset.ctrl with
      attention := s.ctrl.attention, root := s.ctrl.root, eventEnable := s.ctrl.eventEnable } } := rfl

/-- Settles O3: the configuration of the written word is loaded first, and the engine reset then keeps it. -/
theorem engineResetKeepsFourThings : Obligations.EngineResetKeepsFourThings := by
  intro w s _
  have taken : exec (.reset w) s = .next (s.loadConfig w).engineReset := rfl
  rw [taken, engineReset_eq]
  rfl

end Sys2Proof.Machine
end

-- ==== Proofs of the family "engine control": the queue of commands and the invariants at reset (O1, O60) ====
section
/-! SUPPORT. A step by the queue (R190), and the invariants of the step lemmas at the state that they start from. -/

namespace Sys2Proof.Machine

/-! ### The queue of commands -/

theorem step_of_front {s : State} {c : Instr} {rest : List Instr} (front : s.pending = c :: rest) :
    step s = exec c { s with pending := rest } := by
  unfold step
  rw [front]

theorem step_of_empty {s : State} (empty : s.pending = []) : step s = .next s.tick := by
  unfold step
  rw [empty]

/-- The survey clock runs with the elapsed counter (R190). -/
theorem tick_survey (s : State) : s.tick.survey = s.survey + 1 := add_right_comm ..

/-- Settles O1: a command at the front of the queue, the millisecond of an empty one, and the survey clock's value. -/
theorem stepTakesFrontCommand : Obligations.StepTakesFrontCommand := by
  refine ⟨fun c rest s front => step_of_front front, fun s empty => ⟨step_of_empty empty, fun t taken => ?_⟩,
    fun s => BitVec.toNat_add ..⟩
  obtain rfl : s.tick = t := Host.Outcome.next.inj ((step_of_empty empty).symm.trans taken)
  exact ⟨tick_survey s, rfl⟩

/-! ### The invariants at reset (R189) -/

theorem loopsShaped_reset : loopsShaped State.reset := fun l => by
  rw [reset_loopAt]
  exact loopShape_freed 0

/-- At reset no entry of the pool is in use (R30, R35). -/
theorem poolUsed_reset : State.reset.poolUsed = 0 := by decide

theorem poolBounded_reset : poolBounded State.reset := by
  unfold poolBounded
  rw [poolUsed_reset]
  exact Nat.zero_le _

/-- Settles O60: the reset values of the blocks that each invariant speaks of. -/
theorem invariantsHoldAtReset : Obligations.InvariantsHoldAtReset :=
  ⟨framesBounded_of_reset rfl, engineConsistent_of_reset rfl rfl rfl rfl, loopsShaped_reset, poolBounded_reset,
    setsChecked_reset rfl, trailsBounded_reset _ rfl, cacheShaped_of_empty rfl⟩

end Sys2Proof.Machine
end

-- ==== Proofs of the family "engine control": the status timer (O9) ====
section
/-! SUPPORT. A request for a refresh, by the refresh in progress; and the expiry of the status timer (R193). -/

namespace Sys2Proof.Machine

section

variable {s : State} {a : Word} (placed : s.ctrl.statusAddress = some a)
include placed

theorem requestRefresh_starts (free : s.ctrl.refresh = none) :
    s.requestRefresh = { s with ctrl := { s.ctrl with refresh := some .odd } } := by
  simp only [State.requestRefresh, placed, free]

theorem requestRefresh_waits (busy : s.ctrl.refresh ≠ none) :
    s.requestRefresh = { s with ctrl := { s.ctrl with refreshPending := true } } := by
  obtain ⟨f, under⟩ := Option.ne_none_iff_exists'.mp busy
  simp only [State.requestRefresh, placed, under]

end

/-- The status timer armed for one interval from now (R193). -/
def State.rearmStatus (s : State) : State :=
  { s with ctrl := { s.ctrl with statusTimer := some (s.now + s.ctrl.statusInterval) } }

theorem exec_statusTimerExpiry_due {s : State} (due : s.due s.ctrl.statusTimer = true) :
    exec .statusTimerExpiry s = .next s.rearmStatus.requestRefresh := congrArg Host.Outcome.next (if_pos due)

/-- Settles O9: the timer is armed again, and the refresh that it requests starts or waits. -/
theorem statusTimerRequestsRefresh : Obligations.StatusTimerRequestsRefresh := by
  intro s x a timer reached placed
  have taken := exec_statusTimerExpiry_due (s := s) (by rw [timer]; exact due_of_le reached)
  refine ⟨fun free => ?_, fun busy => ?_⟩
  · rw [taken, requestRefresh_starts (s := s.rearmStatus) placed free]
    rfl
  · rw [taken, requestRefresh_waits (s := s.rearmStatus) placed busy]
    rfl

end Sys2Proof.Machine
end

-- ==== Proofs of the family "engine control": the event latch (O7) ====
section
/-! SUPPORT. The bits of EVENTS after an arrival and after a write (R191, 12 "registers"), and what EVENT_ARRIVAL does
in each of its cases. -/

namespace Sys2Proof.Machine

/-! ### The bits of EVENTS -/

theorem eventBit_lt (e : Event) : eventBit e < 10 := by cases e <;> decide

/-- The events stand at their bits in the order of their declaration. -/
theorem eventBit_leftInverse : Function.LeftInverse Event.ofNat eventBit := fun e => by cases e <;> rfl

theorem eventBit_injective : Function.Injective eventBit := eventBit_leftInverse.injective

/-- An event latches its own bit and no other (R191). -/
theorem getLsbD_latched (b : BitVec 10) (e : Event) (i : Nat) :
    (b ||| eventMask e).getLsbD i = (b.getLsbD i || decide (eventBit e = i)) := by
  simp [eventMask, eventBit_lt e]

/-- A write to EVENTS clears the bits that the word sets, and no other (R191, R195). -/
theorem getLsbD_cleared (b : BitVec 10) (w : Word) {i : Nat} (bit : i < 10) :
    (b &&& ~~~ eventBitsOf w).getLsbD i = (b.getLsbD i && !w.getLsbD i) := by
  simp [eventBitsOf, bit]

/-! ### Arrivals -/

section

variable {e : Event} {s : State}

theorem exec_eventArrival_enabled (raised : e ∈ s.ctrl.raised)
    (enabled : s.ctrl.eventEnable.getLsbD (eventBit e) = true) :
    exec (.eventArrival e) s = .next { s with ctrl := { s.ctrl with
      raised := s.ctrl.raised.erase e, events := s.ctrl.events ||| eventMask e } } := by
  simp only [exec, execEventArrival, raised, latchEvent, enabled, if_true]

theorem exec_eventArrival_disabled (raised : e ∈ s.ctrl.raised)
    (disabled : s.ctrl.eventEnable.getLsbD (eventBit e) = false) :
    exec (.eventArrival e) s = .next { s with ctrl := { s.ctrl with raised := s.ctrl.raised.erase e } } := by
  simp only [exec, execEventArrival, raised, latchEvent, disabled, Bool.false_eq_true, if_true, if_false]

theorem exec_eventArrival_absent (absent : e ∉ s.ctrl.raised) : exec (.eventArrival e) s = .next s :=
  congrArg Host.Outcome.next (if_neg absent)

/-- An arrival leaves EVENTS, or latches the bit of its event. -/
theorem exec_eventArrival_events {t : State} (taken : exec (.eventArrival e) s = .next t) :
    t.ctrl.events = s.ctrl.events ∨ t.ctrl.events = s.ctrl.events ||| eventMask e := by
  by_cases raised : e ∈ s.ctrl.raised
  · cases enable : s.ctrl.eventEnable.getLsbD (eventBit e) with
    | true =>
      rw [exec_eventArrival_enabled raised enable] at taken
      cases taken
      exact .inr rfl
    | false =>
      rw [exec_eventArrival_disabled raised enable] at taken
      cases taken
      exact .inl rfl
  · rw [exec_eventArrival_absent raised] at taken
    cases taken
    exact .inl rfl

/-- An arrival leaves the bits of the other events. -/
theorem exec_eventArrival_other {f : Event} {t : State} (taken : exec (.eventArrival e) s = .next t) (other : f ≠ e) :
    t.ctrl.events.getLsbD (eventBit f) = s.ctrl.events.getLsbD (eventBit f) := by
  have apart : eventBit e ≠ eventBit f := fun same => other (eventBit_injective same).symm
  obtain kept | latched := exec_eventArrival_events taken
  · rw [kept]
  · rw [latched, getLsbD_latched, decide_eq_false apart, Bool.or_false]

/-- An enabled arrival sets its bit, whatever EVENTS held. -/
theorem exec_eventArrival_sets {t : State} (raised : e ∈ s.ctrl.raised)
    (enabled : s.ctrl.eventEnable.getLsbD (eventBit e) = true) (taken : exec (.eventArrival e) s = .next t) :
    t.ctrl.events.getLsbD (eventBit e) = true := by
  rw [exec_eventArrival_enabled raised enabled] at taken
  cases taken
  rw [getLsbD_latched, decide_eq_true rfl, Bool.or_true]

end

/-! ### The write to EVENTS -/

theorem exec_eventsClear (w : Word) (s : State) : exec (.eventsClear w) s =
    .next { s with ctrl := { s.ctrl with events := s.ctrl.events &&& ~~~ eventBitsOf w } } := rfl

/-- Settles O7: arrivals, the write, the enables, the write and an arrival in both orders, the read, and the resets. -/
theorem eventLatchRules : Obligations.EventLatchRules := by
  refine ⟨fun e s => exec_eventArrival_enabled, fun e s => exec_eventArrival_disabled,
    fun w s => ⟨_, exec_eventsClear w s, rfl, fun i bit => getLsbD_cleared _ w bit⟩,
    fun e f s t => exec_eventArrival_other, ?_, fun e w s t u raised enabled written => ⟨?_, ?_⟩, fun s => rfl, ?_⟩
  · rintro w s t ⟨⟩
    rfl
  · rintro ⟨⟩ arrives
    refine exec_eventArrival_sets ?_ ?_ arrives
    · exact raised
    · exact enabled
  · rintro - ⟨⟩
    rw [getLsbD_cleared _ w (eventBit_lt e), written, Bool.not_true, Bool.and_false]
  · intro w s t
    constructor <;> rintro ⟨⟩ <;> rfl

end Sys2Proof.Machine
end

-- ==== Proofs of the family "engine control": the attention line (O8) ====
section
/-! SUPPORT. The condition of each source of the attention line (R185, R192), and the line where no source holds. -/

namespace Sys2Proof.Machine

/-! ### The conditions -/

section

variable (s : State)

theorem anyAcquiring_iff : s.anyAcquiring = true ↔ ∃ h, (s.record h).state = .acquiring := by
  simp only [State.anyAcquiring, List.any_eq_true, decide_eq_true_eq]
  exact ⟨fun ⟨h, _, acquiring⟩ => ⟨h, acquiring⟩,
    fun ⟨h, acquiring⟩ => ⟨h, List.mem_of_getElem? (getElem?_heads h), acquiring⟩⟩

theorem liveCondition_judge (n : Head) :
    s.liveCondition (BitVec.ofNat 4 n.val) = decide ((s.headState n).judge = .settled) := by
  match n with
  | 0 => rfl
  | 1 => rfl
  | 2 => rfl
  | 3 => rfl

theorem liveCondition_link (n : Head) :
    s.liveCondition (BitVec.ofNat 4 (4 + n.val)) = decide ((s.link n).judge = .up) := by
  match n with
  | 0 => rfl
  | 1 => rfl
  | 2 => rfl
  | 3 => rfl

theorem liveCondition_acquiring : s.liveCondition 8 = s.anyAcquiring := rfl

/-- A source above 8 names no condition (R185). -/
theorem liveCondition_unnamed {x : BitVec 4} (above : 8 < x.toNat) : s.liveCondition x = false := by
  unfold State.liveCondition
  split
  any_goals omega
  rfl

end

theorem source_cases : ∀ x : BitVec 4, (∃ n : Head, x = BitVec.ofNat 4 n.val) ∨
    (∃ n : Head, x = BitVec.ofNat 4 (4 + n.val)) ∨ x = 8 ∨ 8 < x.toNat := by decide

/-! ### The line -/

theorem bne_zero_iff_exists_bit (b : BitVec 10) : (b != 0) = true ↔ ∃ i, i < 10 ∧ b.getLsbD i = true := by
  have unset (i : Nat) : (0 : BitVec 10).getLsbD i = false := BitVec.getLsbD_zero
  rw [bne_iff_ne]
  refine ⟨fun nonzero => ?_, ?_⟩
  · by_contra clear
    refine nonzero (BitVec.eq_of_getLsbD_eq fun i bit => ?_)
    rw [unset, Bool.eq_false_iff]
    exact fun set => clear ⟨i, bit, set⟩
  · rintro ⟨i, -, set⟩ rfl
    exact absurd set (by rw [unset]; exact Bool.false_ne_true)

theorem attentionAsserted_latched {s : State} (latched : s.ctrl.attention.live = false) :
    s.attentionAsserted = (s.ctrl.events != 0) := by
  simp only [State.attentionAsserted, latched, Bool.false_eq_true, if_false]

theorem attentionAsserted_live {s : State} (live : s.ctrl.attention.live = true) :
    s.attentionAsserted = s.liveCondition s.ctrl.attention.source := if_pos live

/-- Every judge is UNSETTLED, every link DOWN and every record IDLE. -/
def State.headsQuiet (s : State) : Prop :=
  ∀ h, (s.headState h).judge = .unsettled ∧ (s.link h).judge = .down ∧ (s.record h).state = .idle

theorem headsQuiet_reset : State.reset.headsQuiet := fun h => by
  rw [reset_headState, reset_link, reset_record]
  exact ⟨rfl, rfl, rfl⟩

section

variable {s : State} (quiet : s.headsQuiet)
include quiet

theorem liveCondition_of_quiet (x : BitVec 4) : s.liveCondition x = false := by
  obtain ⟨n, rfl⟩ | ⟨n, rfl⟩ | rfl | above := source_cases x
  · rw [liveCondition_judge, (quiet n).1]
    rfl
  · rw [liveCondition_link, (quiet n).2.1]
    rfl
  · rw [liveCondition_acquiring, Bool.eq_false_iff, Ne, anyAcquiring_iff]
    rintro ⟨h, acquiring⟩
    obtain ⟨-, -, idle⟩ := quiet h
    exact nomatch idle.symm.trans acquiring
  · exact liveCondition_unnamed s above

/-- With no event latched and every head quiet the line is not asserted, whatever its configuration. -/
theorem attentionAsserted_of_quiet (clear : s.ctrl.events = 0) : s.attentionAsserted = false := by
  cases live : s.ctrl.attention.live with
  | false => rw [attentionAsserted_latched live, clear, bne_self_eq_false]
  | true => rw [attentionAsserted_live live, liveCondition_of_quiet quiet]

theorem attentionLevel_of_quiet (clear : s.ctrl.events = 0) : s.attentionLevel = s.ctrl.attention.activeLow := by
  rw [State.attentionLevel, attentionAsserted_of_quiet quiet clear, Bool.false_xor]

end

/-- Settles O8: the level, the condition in each mode and of each source, and the quiet states that the resets leave. -/
theorem attentionLineFollows : Obligations.AttentionLineFollows := by
  refine ⟨fun s => rfl, fun s latched => ?_,
    fun s live => ⟨fun n source => ?_, fun n source => ?_, fun source => ?_, fun above => ?_⟩, ?_, ?_⟩
  · rw [attentionAsserted_latched latched, bne_zero_iff_exists_bit]
  · rw [attentionAsserted_live live, source, liveCondition_judge, decide_eq_true_iff]
  · rw [attentionAsserted_live live, source, liveCondition_link, decide_eq_true_iff]
  · rw [attentionAsserted_live live, source, liveCondition_acquiring, anyAcquiring_iff]
  · rw [attentionAsserted_live live, liveCondition_unnamed s above]
  · rintro s t ⟨⟩
    have quiet : s.powerOn.headsQuiet := headsQuiet_reset
    exact ⟨attentionAsserted_of_quiet quiet rfl, attentionLevel_of_quiet quiet rfl⟩
  · rintro w s t ⟨⟩
    have quiet : (s.loadConfig w).engineReset.headsQuiet := headsQuiet_reset
    exact ⟨rfl, quiet, attentionAsserted_of_quiet quiet rfl, attentionLevel_of_quiet quiet rfl⟩

end Sys2Proof.Machine
end
